-- ==== Sys2Proof/Config.lean ====
section
/-! DEFINITION. The fixed sizes of the part, each as the rule named beside it gives it. The spec leaves no
value of an instruction undefined, so there is no free value here. -/

namespace Sys2Proof.Config

/-- Capacity of the traffic notice queue (R170). -/
def noticeCapacity : Nat := 16

/-- Capacity of the seconds ring (R184). -/
def ringCapacity : Nat := 64

/-- Maximum of an event counter, and of the 16-bit counts of a seconds record (R181, R183). -/
def counterMax : Nat := 65535

/-- Maximum of a histogram bin, and of the corrected total of a seconds record (R186, R183). -/
def wideMax : Nat := 4294967295

/-- Maximum of the unlocked-or-missing count of a seconds record (R183; holding it there is log 14). -/
def unlockedMax : Nat := 4000

/-- The largest distance at which an epoch counts as ahead or behind (spec/00_scope.md section 5.2). -/
def horizon : Nat := 4096

/-- The collection length at which the deframer gives up (R121). -/
def overlongBits : Nat := 98

/-- The fewest bits of a frame candidate (R125). -/
def runtBits : Nat := 40

/-- Load of the response timer for a busy wait (R105). -/
def busyWait : Nat := 2

/-- Distance of the epoch that stands in for one that comes too late (R100, R114), and of FLIP LOCAL (R116). -/
def lateLead : Nat := 2

/-- The largest adjusted metric, and the effective metric of an unlocked report (R18, R22). -/
def metricMax : Nat := 1023

/-- The effective uncorrected count of an unlocked report (R18). -/
def unlockedErrors : Nat := 15

end Sys2Proof.Config
end

