-- ==== Sys2Proof/Word.lean ====
section
/-! DEFINITION. The words of the part's ports and the index types of its tables. -/

namespace Sys2Proof

/-- One byte of a port record (R189). -/
abbrev Byte := BitVec 8

/-- A superframe number or an epoch: a 16-bit count that wraps (spec/00_scope.md section 5.2). -/
abbrev Sfn := BitVec 16

/-- The digest of a plan bank, or a frame check: 16 bits (R62). -/
abbrev Digest := BitVec 16

/-- A profile number 0..15 (R52). -/
abbrev Profile := Fin 16

/-- A set of profiles: bit k is set when profile k is in the set (R189). -/
abbrev ProfileSet := BitVec 16

/-- A traffic class number 0..7 (R53). -/
abbrev ClassNo := Fin 8

/-- A set of classes, or of per-class flags: bit k stands for class k (R189). -/
abbrev ClassSet := BitVec 8

end Sys2Proof
end

