-- ==== Sys2Proof/Syntax.lean ====
section
/-! DEFINITION. The commands of the part: one constructor of `Instr` for each row of spec/opcode_table.json,
with the operands that the row's rule gives it. -/

namespace Sys2Proof

/-- Lane 0 or lane 1: one carrier of the hop. -/
inductive Lane where
  | zero | one
deriving DecidableEq, Repr

/-- The receive branches MAIN and DIV of a lane. -/
inductive Branch where
  | main | div
deriving DecidableEq, Repr

/-- IN: this end receives. OUT: this end transmits. -/
inductive Dir where
  | inbound | outbound
deriving DecidableEq, Repr

/-- Urgency of an ASK (R76). -/
inductive Urgency where
  | normal | urgent
deriving DecidableEq, Repr

/-- Reasons of a REFUSE (R123). -/
inductive RefuseReason where
  | pinned | masked | bank | flip | busy | laneOff
deriving DecidableEq, Repr

/-- Reasons of a FLIP-DECLINE (R123). -/
inductive DeclineReason where
  | clash | notReady | digest | pending | epoch
deriving DecidableEq, Repr

/-- Margin states from worst to best (R32). -/
inductive Margin where
  | failing | thin | fair | good
deriving DecidableEq, Repr

/-- A lane's part of a BEACON (R123, R135). -/
structure LaneStatus where
  outProfile : Profile
  outPinned  : Bool
  inMargin   : Margin
  enabled    : Bool
deriving DecidableEq, Repr

/-- When a good frame was sent and taken: the sender's stamp, and the arrival SFN recorded for its first
collected bit (R121, R123). Their difference is the frame's offset (R126). -/
structure FrameTimes where
  stamp   : Sfn
  arrival : Sfn
deriving DecidableEq, Repr

/-- A quality report as the modem sends it (R7); the tag is absent when the report says so. -/
structure QualityReport where
  lane        : Lane
  branch      : Branch
  sfn         : Sfn
  locked      : Bool
  mse         : BitVec 10
  corrected   : BitVec 8
  uncorrected : BitVec 4
  tag         : Option Profile
deriving DecidableEq, Repr

/-- A value written by WRITE PARAM: one number, a threshold set T1..T15, or a set of event flags (R180). -/
inductive ParamValue where
  | number     (n : Nat)
  | thresholds (ts : Vector Nat 15)
  | flags      (set : BitVec 16)
deriving DecidableEq, Repr

/-- The commands. -/
inductive Instr where
  -- reset and time
  | powerOnReset
  | superframeStart
  | secondLatch
  | silenceTimerExpiry
  | beaconTimerExpiry
  | responseTimerExpiry (lane : Lane)
  | busyWaitExpiry (lane : Lane)
  | tagTimerExpiry (lane : Lane)
  | offerTimerExpiry
  | entryCompletion
  | bankEntryCompletion
  -- modem port
  | qualityReport (report : QualityReport)
  | overheadIn (valid : Bool) (segment : BitVec 64)
  -- good frames from the peer
  | ask (times : FrameTimes) (lane : Lane) (toggle urgent : Bool) (target : Profile) (digest : Digest)
  | grant (times : FrameTimes) (lane : Lane) (toggle : Bool) (target : Profile) (epoch : Sfn)
  | refuse (times : FrameTimes) (lane : Lane) (toggle : Bool) (target : Profile) (reason : RefuseReason)
  | beacon (times : FrameTimes) (digest : Digest) (lane0 lane1 : LaneStatus)
  | flipOffer (times : FrameTimes) (toggle : Bool) (digest : Digest) (epoch : Sfn) (station : Byte)
  | flipAgree (times : FrameTimes) (toggle : Bool) (digest : Digest) (epoch : Sfn)
  | flipDecline (times : FrameTimes) (toggle : Bool) (reason : DeclineReason)
  -- traffic port
  | mapQuery (direction : Byte)
  | holdInput (active : Bool)
  | recordCompletion
  -- management port
  | transactionAbort
  | setCursor (table index : Byte)
  | readNext
  | writeNext (record : Vector Byte 7)
  | commitStaged
  | copyLiveToStaged
  | proposeFlip
  | flipLocal
  | writeMask (lane direction mode : Byte) (value : ProfileSet)
  | pin (lane direction profile : Byte)
  | unpin (lane direction : Byte)
  | releaseClass (cls : Byte)
  | laneEnable (lane : Byte)
  | laneDisable (lane : Byte)
  | laneRestart (lane : Byte)
  | overheadRestart
  | fullClear
  | writeParam (item lane : Byte) (value : ParamValue)
  | readParam (item lane : Byte)
  | readStatus
  | readContext (lane direction : Byte)
  | readGrade (lane : Byte)
  | readLock
  | readCounters (group : Byte) (clear : Bool)
  | readRecord (age : Byte)
  | readHistogram (lane direction : Byte)
  | clearHistogram
deriving DecidableEq, Repr

end Sys2Proof
end

