-- ==== Sys2Proof/Machine/State.lean ====
section
/-! DEFINITION. The state of the part, block by block as spec/00_scope.md section 3 lists it, and its value
after power-on reset. Plain data throughout. -/

namespace Sys2Proof.Machine

/-! ## Pairs indexed by lane, branch and direction -/

/-- One value per lane. -/
structure PerLane (α : Type) where
  lane0 : α
  lane1 : α
deriving DecidableEq, Repr

/-- One value per branch of a lane. -/
structure PerBranch (α : Type) where
  main : α
  div  : α
deriving DecidableEq, Repr

/-- One value per direction. -/
structure PerDir (α : Type) where
  inbound  : α
  outbound : α
deriving DecidableEq, Repr

def PerLane.get {α : Type} (p : PerLane α) : Lane → α
  | .zero => p.lane0
  | .one => p.lane1

def PerLane.set {α : Type} (p : PerLane α) (l : Lane) (a : α) : PerLane α :=
  match l with
  | .zero => { p with lane0 := a }
  | .one => { p with lane1 := a }

def PerBranch.get {α : Type} (p : PerBranch α) : Branch → α
  | .main => p.main
  | .div => p.div

def PerBranch.set {α : Type} (p : PerBranch α) (b : Branch) (a : α) : PerBranch α :=
  match b with
  | .main => { p with main := a }
  | .div => { p with div := a }

def PerDir.get {α : Type} (p : PerDir α) : Dir → α
  | .inbound => p.inbound
  | .outbound => p.outbound

def PerDir.set {α : Type} (p : PerDir α) (d : Dir) (a : α) : PerDir α :=
  match d with
  | .inbound => { p with inbound := a }
  | .outbound => { p with outbound := a }

/-! ## Plan store -/

/-- Banks A and B (R54). -/
inductive BankId where
  | a | b
deriving DecidableEq, Repr

/-- A profile record (R52). -/
structure ProfileRecord where
  valid         : Bool
  constellation : Fin 16
  rate          : Fin 8
  slots         : Nat
  enter         : Nat
  stay          : Nat
  upHold        : Nat
deriving DecidableEq, Repr

/-- Shed policies (R53). -/
inductive ShedPolicy where
  | restore | hold
deriving DecidableEq, Repr

/-- A class record (R53). -/
structure ClassRecord where
  enabled    : Bool
  priority   : Nat
  guaranteed : Nat
  ceiling    : Nat
  shed       : ShedPolicy
deriving DecidableEq, Repr

/-- A plan bank: a ladder of sixteen profile records and a table of eight class records (R52, R53). -/
structure Bank where
  ladder  : Vector ProfileRecord 16
  classes : Vector ClassRecord 8
deriving DecidableEq, Repr

/-- Status of the staged bank (R54). -/
inductive StagedStatus where
  | editing | verified | offered | agreed
deriving DecidableEq, Repr

/-- State of the plan store (R54, R63, R66). -/
structure Pst where
  bankA   : Bank
  bankB   : Bank
  live    : BankId
  status  : StagedStatus
  digestA : Digest
  digestB : Digest
  masks   : PerLane (PerDir ProfileSet)
deriving DecidableEq, Repr

/-! ## Modem port -/

/-- A lane's part of a plan word (R3). -/
structure LanePlan where
  enabled          : Bool
  outProfile       : Profile
  outConstellation : Fin 16
  outRate          : Fin 8
  inProfile        : Profile
  inConstellation  : Fin 16
  inRate           : Fin 8
  branch           : Branch
deriving DecidableEq, Repr

/-- A plan word (R3). -/
structure PlanWord where
  sfn        : Sfn
  bank       : BankId
  flipMarker : Bool
  lanes      : PerLane LanePlan
deriving DecidableEq, Repr

/-- The plan words for superframes n-2, n-1, n and n+1, where n is the current SFN (R6). -/
structure PlanHistory where
  twoAgo  : PlanWord
  oneAgo  : PlanWord
  current : PlanWord
  next    : PlanWord
deriving DecidableEq, Repr

/-- Whether a report has been taken for superframes n-2, n-1 and n (section 1.3). -/
structure TakenMarks where
  twoAgo  : Bool
  oneAgo  : Bool
  current : Bool
deriving DecidableEq, Repr

/-- A record on the outbound modem link (R14). -/
inductive ModemRecord where
  | planWord (word : PlanWord)
  | overheadOut (sfn : Sfn) (segment : BitVec 64)
deriving DecidableEq, Repr

/-- State of the modem port (R17). -/
structure Mdp where
  sfn     : Sfn
  history : PlanHistory
  taken   : PerLane (PerBranch TakenMarks)
  enabled : PerLane Bool
deriving DecidableEq, Repr

/-! ## Quality grader -/

/-- Grader state of one branch (section 2.1). -/
structure BranchGrader where
  sum         : Nat
  uncorrected : Nat
  count       : Nat
  lastMetric  : Option Nat
  latestLock  : Bool
deriving DecidableEq, Repr

/-- Grader state of one lane (section 2.1); the branch mode is a parameter (R49). -/
structure LaneGrader where
  branches     : PerBranch BranchGrader
  grade        : Nat
  worst        : Nat
  selectedLock : Bool
  selected     : Branch
  hold         : Nat
deriving DecidableEq, Repr

/-! ## Step engine -/

/-- States of an In context (R73). -/
inductive InState where
  | steady | asking | awaiting | awaitingTag | held | silent
deriving DecidableEq, Repr

/-- An outstanding ASK; `busy` marks a timer that runs as a busy wait (R97, R105). -/
structure OutstandingAsk where
  target  : Profile
  urgency : Urgency
  toggle  : Bool
  retries : Nat
  timer   : Nat
  busy    : Bool
deriving DecidableEq, Repr

/-- An awaited switch; the tag timer is present in AWAITING-TAG (R72). -/
structure AwaitedSwitch where
  target   : Profile
  tagTimer : Option Nat
deriving DecidableEq, Repr

/-- Hold reasons (R72). -/
inductive HoldReason where
  | pinned | bank
deriving DecidableEq, Repr

/-- The lane's Out profile and pinned flag from the latest BEACON (R72). -/
structure FarReport where
  outProfile : Profile
  outPinned  : Bool
deriving DecidableEq, Repr

/-- A run of received tags that differ from the plan (R106); the count is 1 or 2. -/
structure TagRun where
  tag   : Profile
  count : Nat
deriving DecidableEq, Repr

/-- An In context (R72). -/
structure InContext where
  pIn        : Profile
  state      : InState
  ask        : Option OutstandingAsk
  awaited    : Option AwaitedSwitch
  upHold     : Nat
  refused    : ProfileSet
  holdReason : Option HoldReason
  pin        : Option Profile
  toggle     : Bool
  deferred   : Option Urgency
  farLaneOff : Bool
  farReport  : Option FarReport
  tagRun     : Option TagRun
deriving DecidableEq, Repr

/-- States of an Out context (R74). -/
inductive OutState where
  | steady | scheduled
deriving DecidableEq, Repr

/-- Modes of an Out context (R74). -/
inductive OutMode where
  | adaptive | pinned | fallback
deriving DecidableEq, Repr

/-- What an ASK was answered with (R74). -/
inductive AnswerKind where
  | grant (epoch : Sfn)
  | refuse (reason : RefuseReason)
deriving DecidableEq, Repr

/-- An answer to an ASK: the toggle and target asked, and the answer (R74). -/
structure Answer where
  toggle : Bool
  target : Profile
  kind   : AnswerKind
deriving DecidableEq, Repr

/-- An Out context (R74). -/
structure OutContext where
  pOut       : Profile
  state      : OutState
  mode       : OutMode
  pin        : Option Profile
  lastAnswer : Option Answer
deriving DecidableEq, Repr

/-- An outstanding flip offer (R110). -/
structure OutstandingOffer where
  toggle  : Bool
  epoch   : Sfn
  digest  : Digest
  retries : Nat
  timer   : Nat
deriving DecidableEq, Repr

/-- The incoming offer this end agreed; the epoch is in the offerer's count (R110). -/
structure Agreement where
  toggle : Bool
  digest : Digest
  epoch  : Sfn
deriving DecidableEq, Repr

/-- How the most recent own offer or FLIP LOCAL ended (R110). -/
inductive FlipOutcome where
  | agreed | declined (reason : DeclineReason) | withdrawn | unanswered | cancelled
deriving DecidableEq, Repr

/-- The flip coordinator (R110). -/
structure Coordinator where
  offer         : Option OutstandingOffer
  offerToggle   : Bool
  lastAgreement : Option Agreement
  lastOutcome   : Option FlipOutcome
  divergence    : Nat
deriving DecidableEq, Repr

/-- State of the step engine. -/
structure Se where
  inCtx      : PerLane InContext
  outCtx     : PerLane OutContext
  peerSilent : Bool
  flip       : Coordinator
deriving DecidableEq, Repr

/-! ## Overhead link -/

/-- States of the deframer (R121). -/
inductive DeframerState where
  | search | collect
deriving DecidableEq, Repr

/-- The receive deframer (R121). `run` counts the ones of the present run, 8 standing for a run that has
become an abort, which lasts until its zero (log 26); the ones of a run join `collected` when the zero that ends it has
shown them to be data. -/
structure Deframer where
  state        : DeframerState
  collected    : List Bool
  run          : Nat
  firstArrival : Option Sfn
  runArrival   : Option Sfn
deriving DecidableEq, Repr

/-- States of the offset lock (R127). -/
inductive LockState where
  | hunt | confirm | locked
deriving DecidableEq, Repr

/-- The offset lock record (R127). -/
structure OffsetLock where
  state    : LockState
  offset   : Option Sfn
  mismatch : Nat
deriving DecidableEq, Repr

/-- An ASK in its slot (R131). -/
structure AskMessage where
  target  : Profile
  urgency : Urgency
  toggle  : Bool
deriving DecidableEq, Repr

/-- A message in the FLIP-ANSWER slot (R131). -/
inductive FlipAnswer where
  | agree (toggle : Bool) (digest : Digest) (epoch : Sfn)
  | decline (toggle : Bool) (reason : DeclineReason)
deriving DecidableEq, Repr

/-- A FLIP-OFFER in its slot (R131). -/
structure OfferMessage where
  toggle  : Bool
  digest  : Digest
  epoch   : Sfn
  station : Byte
deriving DecidableEq, Repr

/-- The seven source slots (R131). -/
inductive Source where
  | reply (lane : Lane) | flipAnswer | ask (lane : Lane) | flipOffer | beacon
deriving DecidableEq, Repr

/-- The transmit side: the pending set, the unit in progress and the last lane served (R120, R131, R132).
`bits` are the bits of the unit in progress that are still to be drawn. -/
structure Transmitter where
  reply      : PerLane (Option Answer)
  flipAnswer : Option FlipAnswer
  ask        : PerLane (Option AskMessage)
  flipOffer  : Option OfferMessage
  beacon     : Bool
  bits       : List Bool
  frame      : Option Source
  lastLane   : Lane
deriving DecidableEq, Repr

/-- The far margin state and far lane enabled flag of the last BEACON (R136). -/
structure FarStatus where
  margin  : Margin
  enabled : Bool
deriving DecidableEq, Repr

/-- State of the overhead link. -/
structure Ohl where
  deframer : Deframer
  lock     : OffsetLock
  silence  : Nat
  beacon   : Nat
  tx       : Transmitter
  far      : PerLane (Option FarStatus)
deriving DecidableEq, Repr

/-! ## Switch schedule -/

/-- Owners of schedule entries (R142). -/
inductive Owner where
  | context (dir : Dir) (lane : Lane)
  | bank
deriving DecidableEq, Repr

/-- Who switches to what: the owner and the target of an entry (R142). -/
inductive Switch where
  | context (dir : Dir) (lane : Lane) (target : Profile)
  | bank (target : BankId)
deriving DecidableEq, Repr

def Switch.owner : Switch → Owner
  | .context d l _ => .context d l
  | .bank _ => .bank

/-- Sources of entries (R142). -/
inductive EntrySource where
  | grantOut | grantIn | pin | mask | silence | flip
deriving DecidableEq, Repr

/-- A schedule entry (R142). -/
structure Entry where
  switch    : Switch
  epoch     : Sfn
  source    : EntrySource
  committed : Bool
deriving DecidableEq, Repr

def Entry.owner (e : Entry) : Owner := e.switch.owner

/-! ## Capacity allocator -/

/-- A run of a run list: a class, or none for IDLE, with its length (R155). -/
structure Run where
  cls    : Option ClassNo
  length : Nat
deriving DecidableEq, Repr

/-- A slot map, live or forecast (R155). -/
structure SlotMap where
  capacity  : Nat
  laneSplit : Nat
  runs      : List Run
  shed      : ClassSet
  short     : ClassSet
deriving DecidableEq, Repr

/-- State of the capacity allocator (R155). -/
structure Cal where
  live    : PerDir SlotMap
  blocked : ClassSet
deriving DecidableEq, Repr

/-! ## Traffic port -/

/-- The notices that wait in the queue (R170); RESYNC stands in its own flag (R171). -/
inductive Notice where
  | capacity (dir : Dir) (epoch : Sfn) (map : SlotMap)
  | switched (dir : Dir) (epoch : Sfn) (map : SlotMap)
  | cancelled (dir : Dir) (epoch : Sfn)
  | classBlocked (cls : ClassNo)
  | classReleased (cls : ClassNo)
deriving DecidableEq, Repr

/-- A MAP-REPLY (R173); the block flags are absent for IN. -/
structure MapReply where
  dir     : Dir
  sfn     : Sfn
  map     : SlotMap
  blocked : Option ClassSet
  queued  : Nat
  resync  : Bool
deriving DecidableEq, Repr

/-- A record on the outbound traffic link (R169). -/
inductive TrafficRecord where
  | mapReply (reply : MapReply)
  | resync
  | notice (notice : Notice)
deriving DecidableEq, Repr

/-- State of the traffic port, and the level of its hold input (R170 to R173). -/
structure Trp where
  queue   : List Notice
  reply   : Option Dir
  resync  : Bool
  sending : Option TrafficRecord
  hold    : Bool
deriving DecidableEq, Repr

/-! ## Management port -/

/-- The tables the cursor can name (R57). -/
inductive CursorTable where
  | stagedLadder | stagedClasses | liveLadder | liveClasses
deriving DecidableEq, Repr

/-- The cursor; an index equal to the table's number of records is the end (R57). -/
structure Cursor where
  table : CursorTable
  index : Nat
deriving DecidableEq, Repr

/-- Branch modes (section 3.3). -/
inductive BranchMode where
  | auto | fixedMain | fixedDiv
deriving DecidableEq, Repr

/-- Parameters held per lane (R27, R49). -/
structure LaneParams where
  window         : Nat
  penalty        : Nat
  thresholds     : Vector Nat 15
  hysteresis     : Nat
  fastDropMargin : Nat
  branchMargin   : Nat
  branchHold     : Nat
  branchMode     : BranchMode
deriving DecidableEq, Repr

/-- Arbiter modes (R132). -/
inductive ArbiterMode where
  | fixed | rotating
deriving DecidableEq, Repr

/-- Parameters common to both lanes (R82, R119, R139, R180). -/
structure CommonParams where
  longLead     : Nat
  shortLead    : Nat
  responseTime : Nat
  retryCount   : Nat
  flipLead     : Nat
  stationId    : Byte
  silenceLimit : Nat
  beaconPeriod : Nat
  arbiter      : ArbiterMode
  secondLength : Nat
deriving DecidableEq, Repr

/-- Reasons carried by REFUSED (R177); a commit check names its failing record. -/
inductive RefusedReason where
  | baseInvalid (index : Nat)
  | constellation (index : Nat)
  | stayAboveEnter (index : Nat)
  | ladderOrder (index : Nat)
  | ceiling (index : Nat)
  | notVerified | noLock | peerSilent | laneOff | noShare | noRecord
deriving DecidableEq, Repr

/-- Results of a command (R177). -/
inductive Result where
  | ok | busy | refused (reason : RefusedReason) | badArg
deriving DecidableEq, Repr

/-! ## Performance recorder -/

/-- A lane's part of a seconds record (R183). -/
structure LaneSecond where
  worstGrade       : Nat
  bestGrade        : Nat
  correctedTotal   : Nat
  uncorrectedTotal : Nat
  unlocked         : Nat
  lowestIn         : Profile
  lowestOut        : Profile
  endIn            : Profile
  enabledAtEnd     : Bool
  switches         : Nat
  fastDrops        : Nat
  worstFarMargin   : Option Margin
deriving DecidableEq, Repr

/-- A seconds record (R183). -/
structure SecondsRecord where
  sequence      : BitVec 16
  lockLost      : Bool
  peerSilent    : Bool
  flipCompleted : Bool
  lanes         : PerLane LaneSecond
deriving DecidableEq, Repr

/-- What READ GRADE returns (R29). -/
structure GradeReading where
  grade        : Nat
  worst        : Nat
  margin       : Margin
  selectedLock : Bool
  counts       : PerBranch Nat
  metrics      : PerBranch (Option Nat)
  locks        : PerBranch Bool
  selected     : Branch
  mode         : BranchMode
  hold         : Nat
deriving DecidableEq, Repr

/-- What READ LOCK returns (R129): of a slot only whether it holds a message, and of an ASK slot the urgency. -/
structure LockReading where
  lock       : OffsetLock
  silence    : Nat
  beacon     : Nat
  deframer   : DeframerState
  replyHeld  : PerLane Bool
  answerHeld : Bool
  askHeld    : PerLane (Option Urgency)
  offerHeld  : Bool
  beaconHeld : Bool
  frame      : Option Source
  arbiter    : ArbiterMode
  lastLane   : Lane
  far        : PerLane (Option FarStatus)
  peerSilent : Bool
deriving DecidableEq, Repr

/-- The data a response returns (R176, and the rule of each command). -/
inductive ResponseData where
  | empty
  | profileRecord (r : ProfileRecord)
  | classRecord (r : ClassRecord)
  | word (w : BitVec 16)
  | number (bytes : Nat) (n : Nat)
  | thresholds (ts : Vector Nat 15)
  | flags (set : BitVec 12)
  | planStatus (live : BankId) (status : StagedStatus) (liveDigest stagedDigest : Digest)
      (masks : PerLane (PerDir ProfileSet))
  | status (flags : BitVec 12) (outcome : Option FlipOutcome) (status : StagedStatus)
  | inContext (context : InContext) (allowed : ProfileSet) (peerSilent : Bool)
  | outContext (context : OutContext) (allowed : ProfileSet) (entry : Option Entry) (peerSilent : Bool)
  | grade (reading : GradeReading)
  | lock (reading : LockReading)
  | counters (values : List Nat)
  | seconds (record : SecondsRecord)
  | bins (values : Vector Nat 16)
deriving DecidableEq, Repr

/-- The response of an SPI transaction (R176, R177). -/
structure Response where
  result : Result
  data   : ResponseData
deriving DecidableEq, Repr

/-- State of the management port. -/
structure Mgp where
  cursor     : Cursor
  flags      : BitVec 12
  enables    : BitVec 12
  laneParams : PerLane LaneParams
  params     : CommonParams
  response   : Option Response
deriving DecidableEq, Repr

/-- State of the performance recorder (R181 to R186). The 36 counters stand in the order of section 11.4. -/
structure Prc where
  counters  : Vector Nat 36
  ring      : List SecondsRecord
  building  : SecondsRecord
  second    : Nat
  histogram : PerLane (PerDir (Vector Nat 16))
deriving DecidableEq, Repr

/-- The timers of a superframe start event that a command of their own can let run out ahead of the
SUPERFRAME_START that announces the event (log 3). -/
inductive Share where
  | second | silence | beacon | response (lane : Lane) | tag (lane : Lane) | offer
deriving DecidableEq, Repr

/-- The state of the part. `modemOut` holds the records of the latest start event on the outbound modem link,
`shares` the timers that have already taken the start event that is arriving, `pending` the commands that wait. -/
structure State where
  mdp      : Mdp
  qg       : PerLane LaneGrader
  pst      : Pst
  se       : Se
  ohl      : Ohl
  sws      : List Entry
  cal      : Cal
  trp      : Trp
  mgp      : Mgp
  prc      : Prc
  modemOut : List ModemRecord
  shares   : List Share
  pending  : List Instr
deriving DecidableEq, Repr

/-- No command stops the part with a fault: the spec names none (INVENTORY.md, Faults). -/
inductive Fault where
deriving DecidableEq, Repr

/-- Why a command has no meaning. -/
inductive Refusal where
  /-- Raised by an arm of `exec` for a command that has no meaning yet; safe. No arm raises it. -/
  | notModelled (mnemonic : String)
deriving DecidableEq, Repr

/-! ## Power-on reset -/

/-- A profile record with the fill values (R65). -/
def ProfileRecord.fill : ProfileRecord :=
  { valid := false, constellation := 0, rate := 0, slots := 1, enter := 0, stay := 0, upHold := 1 }

/-- Profile 0 of the default bank A (R65). -/
def ProfileRecord.base : ProfileRecord :=
  { valid := true, constellation := 0, rate := 0, slots := 16, enter := 0, stay := 0, upHold := 1 }

/-- A class record with the fill values (R65). -/
def ClassRecord.fill : ClassRecord :=
  { enabled := false, priority := 0, guaranteed := 0, ceiling := 0, shed := .restore }

/-- Class 0 of the default bank A (R65). -/
def ClassRecord.base : ClassRecord :=
  { enabled := true, priority := 0, guaranteed := 0, ceiling := 480, shed := .restore }

/-- The default bank B (R65). -/
def Bank.fill : Bank :=
  { ladder := Vector.replicate 16 .fill, classes := Vector.replicate 8 .fill }

/-- The default bank A (R65). -/
def Bank.base : Bank :=
  { ladder := (Vector.replicate 16 .fill).set 0 .base, classes := (Vector.replicate 8 .fill).set 0 .base }

/-- A lane of a reset plan history entry (R6). -/
def LanePlan.reset : LanePlan :=
  { enabled := true, outProfile := 0, outConstellation := 0, outRate := 0
    inProfile := 0, inConstellation := 0, inRate := 0, branch := .main }

/-- A reset plan history entry (R6). -/
def PlanWord.reset (n : Sfn) : PlanWord :=
  { sfn := n, bank := .a, flipMarker := false, lanes := ⟨.reset, .reset⟩ }

def TakenMarks.none : TakenMarks := ⟨false, false, false⟩

/-- Power-on values of the modem port (R16). -/
def Mdp.reset : Mdp :=
  { sfn := 0
    history := ⟨.reset 65534, .reset 65535, .reset 0, .reset 1⟩
    taken := ⟨⟨.none, .none⟩, ⟨.none, .none⟩⟩
    enabled := ⟨true, true⟩ }

/-- Restart values of a branch (R34). -/
def BranchGrader.restart : BranchGrader :=
  { sum := 0, uncorrected := 0, count := 0, lastMetric := .none, latestLock := false }

/-- Restart values of a lane's grader (R34). -/
def LaneGrader.restart : LaneGrader :=
  { branches := ⟨.restart, .restart⟩, grade := 0, worst := 0, selectedLock := false
    selected := .main, hold := 0 }

/-- A context fresh from power-on reset or a lane command (R92, R95). -/
def InContext.fresh : InContext :=
  { pIn := 0, state := .steady, ask := none, awaited := none, upHold := 0, refused := 0
    holdReason := none, pin := none, toggle := false, deferred := none, farLaneOff := false
    farReport := none, tagRun := none }

def OutContext.fresh : OutContext :=
  { pOut := 0, state := .steady, mode := .adaptive, pin := none, lastAnswer := none }

/-- The idle flip coordinator (R110). -/
def Coordinator.idle : Coordinator :=
  { offer := none, offerToggle := false, lastAgreement := none, lastOutcome := none, divergence := 0 }

def Se.reset : Se :=
  { inCtx := ⟨.fresh, .fresh⟩, outCtx := ⟨.fresh, .fresh⟩, peerSilent := false, flip := .idle }

/-- The deframer in SEARCH with an empty collection (R121). -/
def Deframer.searching : Deframer :=
  { state := .search, collected := [], run := 0, firstArrival := none, runArrival := none }

/-- The offset lock in HUNT (R128). -/
def OffsetLock.hunting : OffsetLock := { state := .hunt, offset := none, mismatch := 0 }

/-- The transmit side after power-on reset (R140). -/
def Transmitter.reset : Transmitter :=
  { reply := ⟨none, none⟩, flipAnswer := none, ask := ⟨none, none⟩, flipOffer := none
    beacon := false, bits := [], frame := none, lastLane := .one }

def Ohl.reset : Ohl :=
  { deframer := .searching, lock := .hunting, silence := 0, beacon := 0, tx := .reset, far := ⟨none, none⟩ }

/-- The live map of a direction after power-on reset (R155). -/
def SlotMap.reset : SlotMap :=
  { capacity := 32, laneSplit := 16, runs := [⟨some 0, 32⟩], shed := 0, short := 0 }

def Cal.reset : Cal := { live := ⟨.reset, .reset⟩, blocked := 0 }

/-- The traffic port after power-on reset (R175); the level of the hold input is log 5. -/
def Trp.reset : Trp := { queue := [], reply := none, resync := false, sending := none, hold := false }

/-- Default parameters of a lane (R24, R27, R49). -/
def LaneParams.default : LaneParams :=
  { window := 16, penalty := 2
    thresholds := #v[900, 800, 700, 600, 520, 450, 390, 340, 295, 255, 220, 190, 165, 140, 120]
    hysteresis := 8, fastDropMargin := 96, branchMargin := 40, branchHold := 4, branchMode := .auto }

/-- Default common parameters (R180). -/
def CommonParams.default : CommonParams :=
  { longLead := 32, shortLead := 4, responseTime := 24, retryCount := 3, flipLead := 1000, stationId := 0
    silenceLimit := 400, beaconPeriod := 64, arbiter := .fixed, secondLength := 2000 }

def Mgp.reset : Mgp :=
  { cursor := ⟨.stagedLadder, 0⟩, flags := 0, enables := 0
    laneParams := ⟨.default, .default⟩, params := .default, response := none }

/-- A lane's part of the record being built after power-on reset: it begins from the reset word for
superframe 0, with grades 0 (R184). -/
def LaneSecond.reset : LaneSecond :=
  { worstGrade := 0, bestGrade := 0, correctedTotal := 0, uncorrectedTotal := 0, unlocked := 0
    lowestIn := 0, lowestOut := 0, endIn := 0, enabledAtEnd := true, switches := 0, fastDrops := 0
    worstFarMargin := none }

def SecondsRecord.reset : SecondsRecord :=
  { sequence := 0, lockLost := false, peerSilent := false, flipCompleted := false, lanes := ⟨.reset, .reset⟩ }

def Prc.reset : Prc :=
  { counters := Vector.replicate 36 0, ring := [], building := .reset, second := 0
    histogram := ⟨⟨Vector.replicate 16 0, Vector.replicate 16 0⟩, ⟨Vector.replicate 16 0, Vector.replicate 16 0⟩⟩ }

/-- The plan store after power-on reset (R65, R71). The two digests are those of the default banks
by R62 and R63; Laws/Plan.lean proves that they are. -/
def Pst.reset : Pst :=
  { bankA := .base, bankB := .fill, live := .a, status := .editing
    digestA := 0xECD5, digestB := 0x5969
    masks := ⟨⟨0xFFFF, 0xFFFF⟩, ⟨0xFFFF, 0xFFFF⟩⟩ }

/-- The machine right after power-on reset, with no command waiting. -/
def State.reset : State :=
  { mdp := .reset, qg := ⟨.restart, .restart⟩, pst := .reset, se := .reset, ohl := .reset, sws := []
    cal := .reset, trp := .reset, mgp := .reset, prc := .reset, modemOut := [], shares := [], pending := [] }

end Sys2Proof.Machine
end

