-- ==== Sys2Proof/Machine/Ops.lean ====
section
/-! DEFINITION. The named operations every block uses: arithmetic on superframe numbers, saturating counts,
and the reads and writes of one lane's records. -/

namespace Sys2Proof.Machine

/-! ## Superframe numbers (spec/00_scope.md section 5.2) -/

/-- The distance from SFN `a` to SFN `b`. -/
def distance (a b : Sfn) : Nat := (b - a).toNat

/-- "SFN + k". -/
def sfnPlus (n : Sfn) (k : Nat) : Sfn := n + BitVec.ofNat 16 k

/-- Epoch `e` lies 1..4096 ahead of `n`. -/
def liesAhead (n e : Sfn) : Bool := decide (1 ≤ distance n e ∧ distance n e ≤ Config.horizon)

/-- Epoch `e` lies 1..4096 behind `n`. -/
def liesBehind (n e : Sfn) : Bool := decide (1 ≤ distance e n ∧ distance e n ≤ Config.horizon)

/-- Epoch `e` lies 2..4096 ahead of `n`: an epoch the schedule accepts (R144), and a grant's in-time class (R100). -/
def liesInTime (n e : Sfn) : Bool := decide (2 ≤ distance n e ∧ distance n e ≤ Config.horizon)

/-- Epoch `e` lies at `n`, 1 ahead, or 1..4096 behind: the late class of R100 and R114. -/
def liesLate (n e : Sfn) : Bool := decide (distance n e ≤ 1) || liesBehind n e

/-- `e` is not earlier than `f`, both compared by their distance ahead of `n` (R81, R144). -/
def notEarlier (n e f : Sfn) : Bool := decide (distance n f ≤ distance n e)

/-! ## Saturating counts (spec/00_scope.md section 5.6) -/

/-- Adds `k` and holds the count at `limit`. -/
def satAdd (limit n k : Nat) : Nat := min limit (n + k)

/-! ## Pairs -/

/-- The other branch of a lane. -/
def otherBranch : Branch → Branch
  | .main => .div
  | .div => .main

/-- The other lane. -/
def otherLane : Lane → Lane
  | .zero => .one
  | .one => .zero

/-- The other bank. -/
def otherBank : BankId → BankId
  | .a => .b
  | .b => .a

/-! ## Records of the state -/

/-- The local SFN (R1). -/
abbrev State.sfn (s : State) : Sfn := s.mdp.sfn

/-- The lane enabled flag (R17). -/
abbrev State.enabled (s : State) (l : Lane) : Bool := s.mdp.enabled.get l

/-- In context of a lane (R72). -/
abbrev State.inCtx (s : State) (l : Lane) : InContext := s.se.inCtx.get l

/-- Out context of a lane (R74). -/
abbrev State.outCtx (s : State) (l : Lane) : OutContext := s.se.outCtx.get l

/-- Grader of a lane (section 2.1). -/
abbrev State.grader (s : State) (l : Lane) : LaneGrader := s.qg.get l

/-- Parameters of a lane (R27, R49). -/
abbrev State.laneParams (s : State) (l : Lane) : LaneParams := s.mgp.laneParams.get l

/-- Parameters common to both lanes (R180). -/
abbrev State.params (s : State) : CommonParams := s.mgp.params

def setIn (l : Lane) (c : InContext) (s : State) : State :=
  { s with se := { s.se with inCtx := s.se.inCtx.set l c } }

def setOut (l : Lane) (c : OutContext) (s : State) : State :=
  { s with se := { s.se with outCtx := s.se.outCtx.set l c } }

def setGrader (l : Lane) (g : LaneGrader) (s : State) : State :=
  { s with qg := s.qg.set l g }

def setCoordinator (c : Coordinator) (s : State) : State :=
  { s with se := { s.se with flip := c } }

def setPeerSilent (mark : Bool) (s : State) : State :=
  { s with se := { s.se with peerSilent := mark } }

def setTx (t : Transmitter) (s : State) : State :=
  { s with ohl := { s.ohl with tx := t } }

def setDeframer (d : Deframer) (s : State) : State :=
  { s with ohl := { s.ohl with deframer := d } }

def setLock (k : OffsetLock) (s : State) : State :=
  { s with ohl := { s.ohl with lock := k } }

def setSilence (n : Nat) (s : State) : State :=
  { s with ohl := { s.ohl with silence := n } }

def setBeaconTimer (n : Nat) (s : State) : State :=
  { s with ohl := { s.ohl with beacon := n } }

def setSchedule (es : List Entry) (s : State) : State := { s with sws := es }

def setStatus (x : StagedStatus) (s : State) : State := { s with pst := { s.pst with status := x } }

def setTrp (t : Trp) (s : State) : State := { s with trp := t }

def setResponse (r : Option Response) (s : State) : State := { s with mgp := { s.mgp with response := r } }

/-- The seconds record being built, rewritten (R183). -/
def setBuilding (r : SecondsRecord) (s : State) : State := { s with prc := { s.prc with building := r } }

/-- A lane's part of the record being built, rewritten (R183). -/
def setSecond (l : Lane) (x : LaneSecond) (s : State) : State :=
  setBuilding { s.prc.building with lanes := s.prc.building.lanes.set l x } s

end Sys2Proof.Machine
end

