-- ==== Sys2Proof/Machine/Frames.lean ====
section
/-! DEFINITION. The check computation (R62), the layout of overhead frames (R123, R192) and the bit stream's
flags and stuffing (R120). -/

namespace Sys2Proof.Machine

/-! ## The check computation -/

/-- One bit through the shift register of x^16 + x^15 + x^2 + 1 (R62). -/
def checkBit (reg : Digest) (bit : Bool) : Digest :=
  if reg.msb != bit then (reg <<< 1) ^^^ 0x8005#16 else reg <<< 1

/-- The bits of a byte, most significant first. -/
def byteBits (b : Byte) : List Bool :=
  [b.getMsbD 0, b.getMsbD 1, b.getMsbD 2, b.getMsbD 3, b.getMsbD 4, b.getMsbD 5, b.getMsbD 6, b.getMsbD 7]

/-- The bits of a list of bytes, in the order they are sent. -/
def bytesBits (bs : List Byte) : List Bool := bs.flatMap byteBits

/-- The register after a list of bytes, starting with all places at one (R62). -/
def check (bytes : List Byte) : Digest := (bytesBits bytes).foldl checkBit 0xFFFF#16

/-! ## Bytes of fields (R189) -/

/-- A two-byte field, high byte first. -/
def wordBytes (w : BitVec 16) : List Byte := [w.extractLsb' 8 8, w.extractLsb' 0 8]

/-- The word that two bytes carry, high byte first. -/
def wordOf (high low : Byte) : BitVec 16 := high ++ low

def boolByte (b : Bool) : Byte := if b then 1 else 0

/-- The profile in bits 7-4 of a byte. -/
def highNibble (b : Byte) : Profile := (b.extractLsb' 4 4).toFin

/-- The profile in bits 3-0 of a byte. -/
def lowNibble (b : Byte) : Profile := (b.extractLsb' 0 4).toFin

/-- A byte with one value in bits 7-4 and another in bits 3-0. -/
def nibbles (high low : Fin 16) : Byte := BitVec.ofFin high ++ BitVec.ofFin (w := 4) low

def laneBit : Lane → Bool
  | .zero => false
  | .one => true

def laneOfBit : Bool → Lane
  | false => .zero
  | true => .one

def refuseCode : RefuseReason → Nat
  | .pinned => 1
  | .masked => 2
  | .bank => 3
  | .flip => 4
  | .busy => 5
  | .laneOff => 6

def refuseReasonOf : Nat → Option RefuseReason
  | 1 => some .pinned
  | 2 => some .masked
  | 3 => some .bank
  | 4 => some .flip
  | 5 => some .busy
  | 6 => some .laneOff
  | _ => none

def declineCode : DeclineReason → Nat
  | .clash => 1
  | .notReady => 2
  | .digest => 3
  | .pending => 4
  | .epoch => 5

def declineReasonOf : Nat → Option DeclineReason
  | 1 => some .clash
  | 2 => some .notReady
  | 3 => some .digest
  | 4 => some .pending
  | 5 => some .epoch
  | _ => none

def marginCode : Margin → Nat
  | .failing => 0
  | .thin => 1
  | .fair => 2
  | .good => 3

def marginOf : BitVec 2 → Margin
  | 0#2 => .failing
  | 1#2 => .thin
  | 2#2 => .fair
  | _ => .good

/-! ## Frames (R123, R192) -/

/-- A frame of one of the seven kinds, less its stamp and check. -/
inductive Frame where
  | ask (lane : Lane) (toggle urgent : Bool) (target : Profile) (digest : Digest)
  | grant (lane : Lane) (toggle : Bool) (target : Profile) (epoch : Sfn)
  | refuse (lane : Lane) (toggle : Bool) (target : Profile) (reason : RefuseReason)
  | beacon (digest : Digest) (lane0 lane1 : LaneStatus)
  | flipOffer (toggle : Bool) (digest : Digest) (epoch : Sfn) (station : Byte)
  | flipAgree (toggle : Bool) (digest : Digest) (epoch : Sfn)
  | flipDecline (toggle : Bool) (reason : DeclineReason)
deriving DecidableEq, Repr

/-- A header byte: the kind in bits 7-4, the lane in bit 3, the toggle in bit 2, urgent in bit 1. -/
def header (kind : BitVec 4) (lane toggle urgent : Bool) : Byte :=
  kind ++ BitVec.ofBool lane ++ BitVec.ofBool toggle ++ BitVec.ofBool urgent ++ 0#1

/-- A BEACON lane status byte. -/
def laneStatusByte (x : LaneStatus) : Byte :=
  BitVec.ofFin (w := 4) x.outProfile ++ BitVec.ofBool x.outPinned ++ BitVec.ofNat 2 (marginCode x.inMargin)
    ++ BitVec.ofBool x.enabled

/-- The lane status that a byte carries. -/
def laneStatusOf (b : Byte) : LaneStatus :=
  { outProfile := highNibble b, outPinned := b.getLsbD 3, inMargin := marginOf (b.extractLsb' 1 2)
    enabled := b.getLsbD 0 }

/-- The header byte of a frame. -/
def Frame.header : Frame → Byte
  | .ask l t u _ _ => Machine.header 1 (laneBit l) t u
  | .grant l t _ _ => Machine.header 2 (laneBit l) t false
  | .refuse l t _ _ => Machine.header 3 (laneBit l) t false
  | .beacon _ _ _ => Machine.header 4 false false false
  | .flipOffer t _ _ _ => Machine.header 5 false t false
  | .flipAgree t _ _ => Machine.header 6 false t false
  | .flipDecline t _ => Machine.header 7 false t false

/-- The body bytes of a frame. -/
def Frame.body : Frame → List Byte
  | .ask _ _ _ p d => nibbles 0 p :: wordBytes d
  | .grant _ _ p e => nibbles 0 p :: wordBytes e
  | .refuse _ _ p r => [nibbles p (Fin.ofNat 16 (refuseCode r))]
  | .beacon d x y => wordBytes d ++ [laneStatusByte x, laneStatusByte y]
  | .flipOffer _ d e st => wordBytes d ++ wordBytes e ++ [st]
  | .flipAgree _ d e => wordBytes d ++ wordBytes e
  | .flipDecline _ r => [BitVec.ofNat 8 (declineCode r)]

/-- The bytes of a frame with its stamp, closed by its check (R123, R124). -/
def Frame.bytes (f : Frame) (stamp : Sfn) : List Byte :=
  let protectedBytes := f.header :: wordBytes stamp ++ f.body
  protectedBytes ++ wordBytes (check protectedBytes)

/-- What the last two frame checks say of a candidate (R125). -/
inductive FrameReading where
  | unknown
  | malformed
  | good (stamp : Sfn) (frame : Frame)
deriving DecidableEq, Repr

/-- The kind's length in bytes (R123). -/
def frameLength : BitVec 4 → Option Nat
  | 1#4 => some 8
  | 2#4 => some 8
  | 3#4 => some 6
  | 4#4 => some 9
  | 5#4 => some 10
  | 6#4 => some 9
  | 7#4 => some 6
  | _ => none

/-- The frame that bytes of a known kind and of that kind's length carry (R192), or none when a REFUSE or
FLIP-DECLINE names no reason of its kind (R125). The two check bytes stand last. -/
def frameOf : List Byte → Option (Sfn × Frame)
  | [h, sh, sl, b, _, _] =>
    if h.extractLsb' 4 4 = 3#4 then
      (refuseReasonOf (b.extractLsb' 0 3).toNat).map fun r =>
        (wordOf sh sl, .refuse (laneOfBit (h.getLsbD 3)) (h.getLsbD 2) (highNibble b) r)
    else if h.extractLsb' 4 4 = 7#4 then
      (declineReasonOf (b.extractLsb' 0 3).toNat).map fun r =>
        (wordOf sh sl, .flipDecline (h.getLsbD 2) r)
    else none
  | [h, sh, sl, b, x, y, _, _] =>
    if h.extractLsb' 4 4 = 1#4 then
      some (wordOf sh sl, .ask (laneOfBit (h.getLsbD 3)) (h.getLsbD 2) (h.getLsbD 1) (lowNibble b) (wordOf x y))
    else if h.extractLsb' 4 4 = 2#4 then
      some (wordOf sh sl, .grant (laneOfBit (h.getLsbD 3)) (h.getLsbD 2) (lowNibble b) (wordOf x y))
    else none
  | [h, sh, sl, b, x, y, z, _, _] =>
    if h.extractLsb' 4 4 = 4#4 then
      some (wordOf sh sl, .beacon (wordOf b x) (laneStatusOf y) (laneStatusOf z))
    else if h.extractLsb' 4 4 = 6#4 then
      some (wordOf sh sl, .flipAgree (h.getLsbD 2) (wordOf b x) (wordOf y z))
    else none
  | [h, sh, sl, b, x, y, z, w, _, _] =>
    if h.extractLsb' 4 4 = 5#4 then
      some (wordOf sh sl, .flipOffer (h.getLsbD 2) (wordOf b x) (wordOf y z) w)
    else none
  | _ => none

/-- Checks 4 and 5 of R125 over the bytes of a candidate. -/
def readFrame (bytes : List Byte) : FrameReading :=
  match bytes with
  | [] => .unknown
  | h :: _ =>
    match frameLength (h.extractLsb' 4 4) with
    | none => .unknown
    | some n =>
      if bytes.length = n then
        match frameOf bytes with
        | some (stamp, f) => .good stamp f
        | none => .malformed
      else .malformed

/-! ## The bit stream (R120) -/

/-- A flag: seven ones followed by a zero. -/
def flagBits : List Bool := [true, true, true, true, true, true, true, false]

/-- An abort sequence: eight ones followed by a zero. -/
def abortBits : List Bool := [true, true, true, true, true, true, true, true, false]

/-- Stuffing: a zero after every run of six ones, counted over the bits as sent; `run` is the length of the
run so far. -/
def stuff : Nat → List Bool → List Bool
  | _, [] => []
  | run, true :: bits => if run = 5 then true :: false :: stuff 0 bits else true :: stuff (run + 1) bits
  | _, false :: bits => false :: stuff 0 bits

/-- The bits of a frame as sent: opening flag, stuffed bytes, closing guard, closing flag. -/
def frameBits (bytes : List Byte) : List Bool :=
  flagBits ++ stuff 0 (bytesBits bytes) ++ [false] ++ flagBits

/-- Whole bytes of a list of bits, most significant bit first; a remainder is dropped. -/
def bitsBytes : List Bool → List Byte
  | a :: b :: c :: d :: e :: f :: g :: h :: rest =>
    (BitVec.ofBool a ++ BitVec.ofBool b ++ BitVec.ofBool c ++ BitVec.ofBool d ++ BitVec.ofBool e
      ++ BitVec.ofBool f ++ BitVec.ofBool g ++ BitVec.ofBool h) :: bitsBytes rest
  | _ => []

/-- The 64 bits of a segment, byte 0 first and each byte most significant bit first (R120). -/
def segmentBits (segment : BitVec 64) : List Bool :=
  (segment.extractLsb' 56 8 :: segment.extractLsb' 48 8 :: segment.extractLsb' 40 8 ::
    segment.extractLsb' 32 8 :: segment.extractLsb' 24 8 :: segment.extractLsb' 16 8 ::
    segment.extractLsb' 8 8 :: segment.extractLsb' 0 8 :: []).flatMap byteBits

/-- The segment whose 64 bits, most significant first, are the list. -/
def segmentOf (bits : List Bool) : BitVec 64 :=
  BitVec.ofNat 64 (bits.foldl (fun n b => 2 * n + b.toNat) 0)

end Sys2Proof.Machine
end

