-- ==== Sys2Proof/Machine/Operands.lean ====
section
/-! DEFINITION. The operand forms of the management commands (R177, R189, R194) and their answers. -/

namespace Sys2Proof.Machine

/-! ## Arguments of one byte -/

/-- A lane argument, 0 or 1. -/
def laneOf (b : Byte) : Option Lane :=
  match b with
  | 0#8 => some .zero
  | 1#8 => some .one
  | _ => none

/-- A direction argument: IN is 0 and OUT is 1 (R189). -/
def dirOf (b : Byte) : Option Dir :=
  match b with
  | 0#8 => some .inbound
  | 1#8 => some .outbound
  | _ => none

/-- A profile argument, 0..15. -/
def profileOf (b : Byte) : Option Profile :=
  if h : b.toNat < 16 then some ⟨b.toNat, h⟩ else none

/-- A class argument, 0..7. -/
def classOf (b : Byte) : Option ClassNo :=
  if h : b.toNat < 8 then some ⟨b.toNat, h⟩ else none

/-- Mask modes (R66). -/
inductive MaskMode where
  | load | setBits | clearBits
deriving DecidableEq, Repr

def maskModeOf (b : Byte) : Option MaskMode :=
  match b with
  | 0#8 => some .load
  | 1#8 => some .setBits
  | 2#8 => some .clearBits
  | _ => none

/-- A table argument, by its position in the list of R57. -/
def tableOf (b : Byte) : Option CursorTable :=
  match b with
  | 0#8 => some .stagedLadder
  | 1#8 => some .stagedClasses
  | 2#8 => some .liveLadder
  | 3#8 => some .liveClasses
  | _ => none

/-- Counter groups (section 11.4). -/
inductive CounterGroup where
  | mdp | ohl | se
deriving DecidableEq, Repr

def groupOf (b : Byte) : Option CounterGroup :=
  match b with
  | 0#8 => some .mdp
  | 1#8 => some .ohl
  | 2#8 => some .se
  | _ => none

/-- Parameter items held per lane (section 11.3). -/
inductive LaneItem where
  | window | penalty | thresholds | hysteresis | fastDropMargin | branchMargin | branchHold | branchMode
deriving DecidableEq, Repr

/-- Parameter items common to both lanes (section 11.3). -/
inductive CommonItem where
  | longLead | shortLead | responseTime | retryCount | flipLead | stationId | silenceLimit | beaconPeriod
  | arbiterMode | secondLength | flagEnables | planStatus
deriving DecidableEq, Repr

/-- The parameter items. -/
inductive ParamItem where
  | lane (item : LaneItem)
  | common (item : CommonItem)
deriving DecidableEq, Repr

/-- An item argument, by its position in the table of section 11.3. -/
def itemOf (b : Byte) : Option ParamItem :=
  match b with
  | 0#8 => some (.lane .window)
  | 1#8 => some (.lane .penalty)
  | 2#8 => some (.lane .thresholds)
  | 3#8 => some (.lane .hysteresis)
  | 4#8 => some (.lane .fastDropMargin)
  | 5#8 => some (.lane .branchMargin)
  | 6#8 => some (.lane .branchHold)
  | 7#8 => some (.lane .branchMode)
  | 8#8 => some (.common .longLead)
  | 9#8 => some (.common .shortLead)
  | 10#8 => some (.common .responseTime)
  | 11#8 => some (.common .retryCount)
  | 12#8 => some (.common .flipLead)
  | 13#8 => some (.common .stationId)
  | 14#8 => some (.common .silenceLimit)
  | 15#8 => some (.common .beaconPeriod)
  | 16#8 => some (.common .arbiterMode)
  | 17#8 => some (.common .secondLength)
  | 18#8 => some (.common .flagEnables)
  | 19#8 => some (.common .planStatus)
  | _ => none

/-! ## Records written by WRITE NEXT (R52, R53, R59, R63) -/

/-- The profile record that seven digest bytes carry, none when a field lies outside its range. A two-valued
field is its byte's lowest bit (log 9). -/
def profileRecordOf (r : Vector Byte 7) : Option ProfileRecord :=
  let constellation := r[1].toNat
  let rate := r[2].toNat
  if h : constellation < 16 ∧ rate < 8 then
    if 1 ≤ r[3].toNat ∧ r[3].toNat ≤ 240 ∧ r[4].toNat < 16 ∧ r[5].toNat < 16 ∧ 1 ≤ r[6].toNat ∧ r[6].toNat < 16 then
      some { valid := r[0].getLsbD 0, constellation := ⟨constellation, h.1⟩, rate := ⟨rate, h.2⟩
             slots := r[3].toNat, enter := r[4].toNat, stay := r[5].toNat, upHold := r[6].toNat }
    else none
  else none

/-- The class record that seven digest bytes carry, none when a field lies outside its range. -/
def classRecordOf (r : Vector Byte 7) : Option ClassRecord :=
  let guaranteed := (wordOf r[2] r[3]).toNat
  let ceiling := (wordOf r[4] r[5]).toNat
  if r[1].toNat < 8 ∧ guaranteed ≤ 480 ∧ ceiling ≤ 480 then
    some { enabled := r[0].getLsbD 0, priority := r[1].toNat, guaranteed := guaranteed, ceiling := ceiling
           shed := if r[6].getLsbD 0 then .hold else .restore }
  else none

/-! ## Answers (R176, R177) -/

/-- A command ends with a result and no data. -/
def answer (r : Result) (s : State) : State := setResponse (some ⟨r, .empty⟩) s

/-- A command ends OK and returns data. -/
def answerData (d : ResponseData) (s : State) : State := setResponse (some ⟨.ok, d⟩) s

end Sys2Proof.Machine
end

