-- ==== Sys2Proof/Decode.lean ====
section
/-! DEFINITION. The commands that a table word and the ports' byte records spell. No row of the table has bits, so
no word spells a command; the byte records are those of R190, R191, R193 and R194. -/

namespace Sys2Proof

open Machine

/-- The command that a word spells by the table's bits: the table gives no row any. -/
def decodeTableWord (_nbits _w : Nat) : Option Instr := none

/-! ## Records of the serial links (R190) -/

/-- A record: its kind byte, its contents, and the bytes after it. None while bytes are still to come. -/
def takeRecord : List Byte → Option (Byte × List Byte × List Byte)
  | kind :: length :: rest =>
    if length.toNat ≤ rest.length then some (kind, rest.take length.toNat, rest.drop length.toNat) else none
  | _ => none

/-- The records that `fuel` readings find in the bytes of a link, and the bytes of a record that is still arriving.
Each length byte is taken as the extent of its record, whatever the kind byte says, and the byte after the record is
the kind byte of the next (R190). -/
def takeRecords : Nat → List Byte → List (Byte × List Byte) × List Byte
  | 0, bytes => ([], bytes)
  | fuel + 1, bytes =>
    match takeRecord bytes with
    | some (kind, contents, rest) =>
      let r := takeRecords fuel rest
      ((kind, contents) :: r.1, r.2)
    | none => ([], bytes)

/-- The records in the bytes of a link, and the bytes of a record that is still arriving. A record takes up two bytes
at least, so that there are no more records than bytes. -/
def recordsOf (bytes : List Byte) : List (Byte × List Byte) × List Byte := takeRecords bytes.length bytes

/-- The eight bytes of a segment (R191). -/
def segmentOfBytes (a b c d e f g h : Byte) : BitVec 64 := a ++ b ++ c ++ d ++ e ++ f ++ g ++ h

/-- The quality report of seven content bytes (R191). -/
def reportOf (b0 b1 b2 b3 b4 b5 b6 : Byte) : QualityReport :=
  { lane := laneOfBit (b2.getLsbD 7)
    branch := if b2.getLsbD 6 then .div else .main
    sfn := wordOf b0 b1
    locked := b2.getLsbD 5
    mse := (wordOf b3 b4).extractLsb' 0 10
    corrected := b5
    uncorrected := b6.extractLsb' 0 4
    tag := if b2.getLsbD 4 then some (lowNibble b2) else none }

/-- A record on the inbound modem link; none for a record that is discarded (R14, R191). -/
def decodeModem (kind : Byte) (contents : List Byte) : Option Instr :=
  if kind = 1 then
    match contents with
    | [] => some .superframeStart
    | _ => none
  else if kind = 2 then
    match contents with
    | [b0, b1, b2, b3, b4, b5, b6] => some (.qualityReport (reportOf b0 b1 b2 b3 b4 b5 b6))
    | _ => none
  else if kind = 3 then
    match contents with
    | [v, _, a, b, c, d, e, f, g, h] => some (.overheadIn (v.getLsbD 0) (segmentOfBytes a b c d e f g h))
    | _ => none
  else none

/-- A record on the inbound traffic link; none for a record that is discarded (R169, R193). -/
def decodeTraffic (kind : Byte) (contents : List Byte) : Option Instr :=
  if kind = 1 then
    match contents with
    | [d] => some (.mapQuery d)
    | _ => none
  else none

/-! ## SPI transactions (R177, R194) -/

/-- What the bytes of a transaction amount to: a command not yet complete, a BAD-ARG answer, or a command. -/
inductive SpiReading where
  | incomplete
  | badArg
  | command (c : Instr)
deriving DecidableEq, Repr

/-- Two-byte values in turn. -/
def wordsOf : List Byte → List Nat
  | a :: b :: rest => (wordOf a b).toNat :: wordsOf rest
  | _ => []

/-- The value of WRITE PARAM for an item, none when its length is not the item's (R194). -/
def valueOf (item : ParamItem) (bytes : List Byte) : Option ParamValue :=
  match item, bytes with
  | .lane .thresholds, _ =>
    if h : (wordsOf bytes).length = 15 then
      if bytes.length = 30 then some (.thresholds ⟨(wordsOf bytes).toArray, by simpa using h⟩) else none
    else none
  | .common .flagEnables, [a, b] => some (.flags (wordOf a b))
  | .common .flipLead, [a, b] => some (.number (wordOf a b).toNat)
  | .common .silenceLimit, [a, b] => some (.number (wordOf a b).toNat)
  | .common .beaconPeriod, [a, b] => some (.number (wordOf a b).toNat)
  | .common .secondLength, [a, b] => some (.number (wordOf a b).toNat)
  | .common .flagEnables, _ => none
  | .common .flipLead, _ => none
  | .common .silenceLimit, _ => none
  | .common .beaconPeriod, _ => none
  | .common .secondLength, _ => none
  | .common .planStatus, _ => none
  | _, [a] => some (.number a.toNat)
  | _, _ => none

/-- The command of a code byte and its argument bytes, none for BAD-ARG (R177, R194). -/
def decodeCommand (code : Byte) (args : List Byte) : Option Instr :=
  match code.toNat, args with
  | 1, [t, i] => some (.setCursor t i)
  | 2, [] => some .readNext
  | 3, [a, b, c, d, e, f, g] => some (.writeNext #v[a, b, c, d, e, f, g])
  | 4, [] => some .commitStaged
  | 5, [] => some .copyLiveToStaged
  | 6, [] => some .proposeFlip
  | 7, [] => some .flipLocal
  | 8, [l, d, m, x, y] => some (.writeMask l d m (wordOf x y))
  | 9, [l, d, p] => some (.pin l d p)
  | 10, [l, d] => some (.unpin l d)
  | 11, [c] => some (.releaseClass c)
  | 12, [l] => some (.laneEnable l)
  | 13, [l] => some (.laneDisable l)
  | 14, [l] => some (.laneRestart l)
  | 15, [] => some .overheadRestart
  | 16, [] => some .fullClear
  | 17, item :: l :: value =>
    match itemOf item with
    | some i => (valueOf i value).map (.writeParam item l)
    | none => none
  | 18, [item, l] => some (.readParam item l)
  | 19, [] => some .readStatus
  | 20, [l, d] => some (.readContext l d)
  | 21, [l] => some (.readGrade l)
  | 22, [] => some .readLock
  | 23, [g, c] => some (.readCounters g (c.getLsbD 0))
  | 24, [a] => some (.readRecord a)
  | 25, [l, d] => some (.readHistogram l d)
  | 26, [] => some .clearHistogram
  | _, _ => none

/-- The bytes shifted in by a transaction: the command is complete once its last argument byte is in (R176). -/
def readTransaction : List Byte → SpiReading
  | code :: length :: args =>
    if args.length < length.toNat then .incomplete
    else
      match decodeCommand code (args.take length.toNat) with
      | some c => .command c
      | none => .badArg
  | _ => .incomplete

end Sys2Proof
end

