-- ==== Sys2Proof/Machine/Plan.lean ====
section
/-! DEFINITION. The plan banks as the other blocks read them: the digest (R63), allowed sets (R68), the remap
(R69), and the margin state (R32). -/

namespace Sys2Proof.Machine

/-- The contents of a bank by its letter. -/
def Pst.bank (p : Pst) : BankId → Bank
  | .a => p.bankA
  | .b => p.bankB

/-- The digest of a bank by its letter (R63). -/
def Pst.digest (p : Pst) : BankId → Digest
  | .a => p.digestA
  | .b => p.digestB

/-- The letter of the staged bank (R54). -/
def Pst.staged (p : Pst) : BankId := otherBank p.live

/-- The live bank (R54). -/
def State.liveBank (s : State) : Bank := s.pst.bank s.pst.live

/-- The staged bank (R54). -/
def State.stagedBank (s : State) : Bank := s.pst.bank s.pst.staged

def State.liveDigest (s : State) : Digest := s.pst.digest s.pst.live

def State.stagedDigest (s : State) : Digest := s.pst.digest s.pst.staged

/-- Replaces a bank and its digest together. -/
def Pst.setBank (p : Pst) (x : BankId) (bank : Bank) (digest : Digest) : Pst :=
  match x with
  | .a => { p with bankA := bank, digestA := digest }
  | .b => { p with bankB := bank, digestB := digest }

/-! ## Digest (R63) -/

/-- The seven bytes of a profile record. -/
def profileBytes (r : ProfileRecord) : List Byte :=
  [boolByte r.valid, BitVec.ofNat 8 r.constellation, BitVec.ofNat 8 r.rate, BitVec.ofNat 8 r.slots,
    BitVec.ofNat 8 r.enter, BitVec.ofNat 8 r.stay, BitVec.ofNat 8 r.upHold]

def shedByte : ShedPolicy → Byte
  | .restore => 0
  | .hold => 1

/-- The seven bytes of a class record. -/
def classBytes (r : ClassRecord) : List Byte :=
  boolByte r.enabled :: BitVec.ofNat 8 r.priority :: wordBytes (BitVec.ofNat 16 r.guaranteed)
    ++ wordBytes (BitVec.ofNat 16 r.ceiling) ++ [shedByte r.shed]

/-- The 168 bytes that a bank's digest covers. -/
def bankBytes (b : Bank) : List Byte :=
  b.ladder.toList.flatMap profileBytes ++ b.classes.toList.flatMap classBytes

/-- The digest of a bank (R63). -/
def bankDigest (b : Bank) : Digest := check (bankBytes b)

/-! ## Profiles -/

/-- The profiles in ascending order. -/
def profilesUp : List Profile := [0, 1, 2, 3, 4, 5, 6, 7, 8, 9, 10, 11, 12, 13, 14, 15]

/-- The profiles in descending order. -/
def profilesDown : List Profile := [15, 14, 13, 12, 11, 10, 9, 8, 7, 6, 5, 4, 3, 2, 1, 0]

/-- The classes in ascending order. -/
def classNumbers : List ClassNo := [0, 1, 2, 3, 4, 5, 6, 7]

/-- Membership in a set of profiles. -/
def inSet (x : ProfileSet) (p : Profile) : Bool := x.getLsbD p

/-- The set with profile `p` added. -/
def withProfile (x : ProfileSet) (p : Profile) : ProfileSet := x ||| BitVec.twoPow 16 p

/-- The highest profile below `p` that satisfies `f`. -/
def highestBelow (f : Profile → Bool) (p : Profile) : Option Profile :=
  profilesDown.find? fun q => decide (q < p) && f q

/-- The highest profile at or below `p` that satisfies `f`. -/
def highestUpTo (f : Profile → Bool) (p : Profile) : Option Profile :=
  profilesDown.find? fun q => decide (q ≤ p) && f q

/-- The lowest profile above `p` that satisfies `f`. -/
def lowestAbove (f : Profile → Bool) (p : Profile) : Option Profile :=
  profilesUp.find? fun q => decide (p < q) && f q

/-- The record of a profile in a bank. -/
def Bank.profile (b : Bank) (p : Profile) : ProfileRecord := b.ladder[p]

/-- The record of a class in a bank. -/
def Bank.cls (b : Bank) (c : ClassNo) : ClassRecord := b.classes[c]

/-- Whether a profile is valid in a bank (R52). -/
def Bank.valid (b : Bank) (p : Profile) : Bool := (b.profile p).valid

/-- The mask of a lane and direction (R66). -/
def State.mask (s : State) (l : Lane) (d : Dir) : ProfileSet := (s.pst.masks.get l).get d

/-- Membership in the allowed set of a direction context, evaluated as the state stands (R68). -/
def allowed (s : State) (d : Dir) (l : Lane) (p : Profile) : Bool :=
  s.liveBank.valid p && inSet (s.mask l d) p &&
    match d with
    | .inbound => !inSet (s.inCtx l).refused p
    | .outbound => true

/-- The allowed set as a set of profiles (R68, R96). -/
def allowedSet (s : State) (d : Dir) (l : Lane) : ProfileSet :=
  profilesUp.foldl (fun x p => if allowed s d l p then withProfile x p else x) 0

/-- The remap of profile `p` of a direction context under a bank; the refused set is not read (R69). -/
def remap (s : State) (b : Bank) (d : Dir) (l : Lane) (p : Profile) : Profile :=
  (highestUpTo (fun q => b.valid q && inSet (s.mask l d) q) p).getD 0

/-- The live profile of a direction context (R75). -/
def State.liveProfile (s : State) (d : Dir) (l : Lane) : Profile :=
  match d with
  | .inbound => (s.inCtx l).pIn
  | .outbound => (s.outCtx l).pOut

/-! ## Margin state (R32) -/

/-- The margin state of a lane, evaluated as the state stands (R32, R33). -/
def marginState (s : State) (l : Lane) : Margin :=
  let g := s.grader l
  let p := (s.inCtx l).pIn
  if !g.selectedLock || g.grade = 0 then .failing
  else if g.grade < (s.liveBank.profile p).enter then .thin
  else
    match lowestAbove (allowed s .inbound l) p with
    | none => .good
    | some u => if (s.liveBank.profile u).enter ≤ g.grade then .good else .fair

end Sys2Proof.Machine
end

