-- ==== Sys2Proof/Machine/Allocate.lean ====
section
/-! DEFINITION. The division of a direction's slots among the traffic classes: capacity (R156), the guarantees
and excess passes (R157, R158), the flags (R159) and the run list (R160). -/

namespace Sys2Proof.Machine

/-- One count per class. -/
abbrev Shares := Vector Nat 8

/-- Priority levels in turn (R158). -/
def priorityLevels : List Nat := [0, 1, 2, 3, 4, 5, 6, 7]

/-- The enabled classes of one priority, in class number order. -/
def levelClasses (cls : Vector ClassRecord 8) (level : Nat) : List ClassNo :=
  classNumbers.filter fun c => cls[c].enabled && cls[c].priority == level

/-- The allocation order: by priority, then by class number (R157). -/
def allocationOrder (cls : Vector ClassRecord 8) : List ClassNo :=
  priorityLevels.flatMap (levelClasses cls)

/-- The guarantees pass over classes in allocation order, from a remaining count (R157). -/
def guaranteesPass (cls : Vector ClassRecord 8) : List ClassNo → Shares → Nat → Shares × Nat
  | [], sh, remaining => (sh, remaining)
  | c :: cs, sh, remaining =>
    let got := min cls[c].guaranteed remaining
    guaranteesPass cls cs (sh.set c got) (remaining - got)

/-- The dealing of one level: one slot at a time round the classes below their ceiling, the first of the
list next (R158). The number left is the second component. -/
def deal (cls : Vector ClassRecord 8) : Nat → List ClassNo → Shares → Shares × Nat
  | 0, _, sh => (sh, 0)
  | remaining + 1, [], sh => (sh, remaining + 1)
  | remaining + 1, c :: cs, sh =>
    let got := sh[c] + 1
    deal cls remaining (if got < cls[c].ceiling then cs ++ [c] else cs) (sh.set c got)

/-- The excess pass over the priority levels (R158). -/
def excessPass (cls : Vector ClassRecord 8) : List Nat → Shares → Nat → Shares × Nat
  | [], sh, remaining => (sh, remaining)
  | level :: levels, sh, remaining =>
    let taking := (levelClasses cls level).filter fun c => decide (sh[c] < cls[c].ceiling)
    let dealt := deal cls remaining taking sh
    excessPass cls levels dealt.1 dealt.2

/-- The shares of all classes, and the idle slots, from the capacity and the class table (R157, R158). -/
def shareOut (capacity : Nat) (cls : Vector ClassRecord 8) : Shares × Nat :=
  let given := guaranteesPass cls (allocationOrder cls) (Vector.replicate 8 0) capacity
  excessPass cls priorityLevels given.1 given.2

/-- The set of classes that satisfy `f`. -/
def classSet (f : ClassNo → Bool) : ClassSet :=
  classNumbers.foldl (fun x c => if f c then x ||| BitVec.twoPow 8 c else x) 0

/-- The run list of shares in allocation order, the idle run last (R160). -/
def runList (order : List ClassNo) (sh : Shares) (idle : Nat) : List Run :=
  (order.filter fun c => decide (0 < sh[c])).map (fun c => ⟨some c, sh[c]⟩)
    ++ (if 0 < idle then [⟨none, idle⟩] else [])

/-- The slot map of a capacity and lane split under a class table (R155 to R160). -/
def allocate (capacity split : Nat) (cls : Vector ClassRecord 8) : SlotMap :=
  let out := shareOut capacity cls
  { capacity := capacity
    laneSplit := split
    runs := runList (allocationOrder cls) out.1 out.2
    shed := classSet fun c => cls[c].enabled && out.1[c] == 0
    short := classSet fun c => cls[c].enabled && decide (out.1[c] < cls[c].guaranteed) }

/-- A class's share in a map: the total length of its runs (R155). -/
def SlotMap.share (m : SlotMap) (c : ClassNo) : Nat :=
  ((m.runs.filter fun r => r.cls == some c).map Run.length).sum

/-- The payload slots a lane contributes when its profile is `p`; none when the lane is disabled (R156). -/
def lanePayload (s : State) (l : Lane) (p : Profile) : Nat :=
  if s.enabled l then (s.liveBank.profile p).slots else 0

/-- The map of a direction when its lanes hold the profiles given (R156, R164). -/
def mapOf (s : State) (p0 p1 : Profile) : SlotMap :=
  allocate (lanePayload s .zero p0 + lanePayload s .one p1) (lanePayload s .zero p0) s.liveBank.classes

/-- The live map of a direction from the live profiles as they stand (R161). -/
def liveMapOf (s : State) (d : Dir) : SlotMap :=
  mapOf s (s.liveProfile d .zero) (s.liveProfile d .one)

end Sys2Proof.Machine
end

