-- ==== Sys2Proof/Machine/Flags.lean ====
section
/-! DEFINITION. Event flags, the attention output and the event counters (sections 11.2 and 11.4). -/

namespace Sys2Proof.Machine

/-- The twelve event flags, in the order of the table of section 11.2. -/
inductive Flag where
  | peerSilent | peerHeard | lockLost | flipDone | flipFailed | offerDeclined | bankDiverged | divergence
  | laneMismatch | trafficResync | recordReady | counterLimit
deriving DecidableEq, Repr

/-- The position of a flag in a set of flags (R189). -/
def Flag.position : Flag → Nat
  | .peerSilent => 0
  | .peerHeard => 1
  | .lockLost => 2
  | .flipDone => 3
  | .flipFailed => 4
  | .offerDeclined => 5
  | .bankDiverged => 6
  | .divergence => 7
  | .laneMismatch => 8
  | .trafficResync => 9
  | .recordReady => 10
  | .counterLimit => 11

/-- Whether a flag is set (R178). -/
def State.flagSet (s : State) (f : Flag) : Bool := s.mgp.flags.getLsbD f.position

/-- Raising a flag sets it; one that is set stays set (R178). -/
def raise (f : Flag) (s : State) : State :=
  { s with mgp := { s.mgp with flags := s.mgp.flags ||| BitVec.twoPow 12 f.position } }

/-- The attention output: asserted while a flag is both set and enabled (R179). -/
def State.attention (s : State) : Bool := s.mgp.flags &&& s.mgp.enables != 0#12

/-- Counters of the MDP group (R15). -/
inductive MdpCounter where
  | stale | future | duplicate | missing
deriving DecidableEq, Repr

/-- Counters of the OHL group (R141). -/
inductive OhlCounter where
  | good | runts | misaligned | overlong | checkErrors | unknown | malformed | aborts | lost | lockLosses
deriving DecidableEq, Repr

/-- Counters of the SE group, one of each per lane (section 11.4). -/
inductive SeCounter where
  | asksSent | asksFailed | lateGrants | wildGrants | unanchoredGrants | staleGrants | divergences
  | bankDivergences | switchesUp | switchesDown | fastDrops
deriving DecidableEq, Repr

/-- The 36 event counters (section 11.4). -/
inductive Counter where
  | mdp (c : MdpCounter)
  | ohl (c : OhlCounter)
  | se (lane : Lane) (c : SeCounter)
deriving DecidableEq, Repr

def MdpCounter.place : MdpCounter → Fin 36
  | .stale => 0
  | .future => 1
  | .duplicate => 2
  | .missing => 3

def OhlCounter.place : OhlCounter → Fin 36
  | .good => 4
  | .runts => 5
  | .misaligned => 6
  | .overlong => 7
  | .checkErrors => 8
  | .unknown => 9
  | .malformed => 10
  | .aborts => 11
  | .lost => 12
  | .lockLosses => 13

/-- Place of a lane 0 counter; lane 1's stand eleven places on. -/
def SeCounter.place : SeCounter → Lane → Fin 36
  | .asksSent, .zero => 14
  | .asksFailed, .zero => 15
  | .lateGrants, .zero => 16
  | .wildGrants, .zero => 17
  | .unanchoredGrants, .zero => 18
  | .staleGrants, .zero => 19
  | .divergences, .zero => 20
  | .bankDivergences, .zero => 21
  | .switchesUp, .zero => 22
  | .switchesDown, .zero => 23
  | .fastDrops, .zero => 24
  | .asksSent, .one => 25
  | .asksFailed, .one => 26
  | .lateGrants, .one => 27
  | .wildGrants, .one => 28
  | .unanchoredGrants, .one => 29
  | .staleGrants, .one => 30
  | .divergences, .one => 31
  | .bankDivergences, .one => 32
  | .switchesUp, .one => 33
  | .switchesDown, .one => 34
  | .fastDrops, .one => 35

/-- Where a counter stands among the 36, in the order of the table of section 11.4. -/
def Counter.place : Counter → Fin 36
  | .mdp c => c.place
  | .ohl c => c.place
  | .se l c => c.place l

/-- The value of a counter. -/
def State.counter (s : State) (c : Counter) : Nat := s.prc.counters[c.place]

/-- One increment of an event counter. The increment that reaches 65535 raises COUNTER-LIMIT, and a counter
that stands there stays (R181). -/
def bump (c : Counter) (s : State) : State :=
  let v := s.counter c
  if v < Config.counterMax then
    let t := { s with prc := { s.prc with counters := s.prc.counters.set c.place (v + 1) } }
    if v + 1 = Config.counterMax then raise .counterLimit t else t
  else s

end Sys2Proof.Machine
end

