-- ==== Sys2Proof/Machine/Traffic.lean ====
section
/-! DEFINITION. The traffic port's queue and sending (R170 to R173), and the allocator's live maps, forecasts
and block flags as they reach it (R161 to R166). -/

namespace Sys2Proof.Machine

/-! ## Sending (R172, R173) -/

/-- The MAP-REPLY for a direction, built from the state as it stands (R173). -/
def mapReply (s : State) (d : Dir) : MapReply :=
  { dir := d
    sfn := s.sfn
    map := s.cal.live.get d
    blocked := match d with
      | .inbound => none
      | .outbound => some s.cal.blocked
    queued := s.trp.queue.length
    resync := s.trp.resync }

/-- The TRP looks for a record to begin: the reply, then the RESYNC, then the head notice, when the link is
free and the hold input inactive (R172). -/
def tryBegin (s : State) : State :=
  if s.trp.sending.isSome || s.trp.hold then s
  else
    match s.trp.reply with
    | some d => setTrp { s.trp with reply := none, sending := some (.mapReply (mapReply s d)) } s
    | none =>
      if s.trp.resync then setTrp { s.trp with resync := false, sending := some .resync } s
      else
        match s.trp.queue with
        | n :: rest => setTrp { s.trp with queue := rest, sending := some (.notice n) } s
        | [] => s

/-! ## Notices (R170, R171) -/

/-- A notice is handed to the TRP: it joins the tail, or the queue overflows (R170, R171). -/
def handNotice (n : Notice) (s : State) : State :=
  if s.trp.queue.length < Config.noticeCapacity then
    tryBegin (setTrp { s.trp with queue := s.trp.queue ++ [n] } s)
  else
    tryBegin (raise .trafficResync (setTrp { s.trp with queue := [], resync := true } s))

/-! ## Live maps and block flags (R161, R166) -/

/-- The update of one class's block flag at a recomputation of the live OUT map (R166). -/
def updateBlock (old new : SlotMap) (s : State) (c : ClassNo) : State :=
  let r := s.liveBank.cls c
  let flag := s.cal.blocked.getLsbD c
  if r.enabled && r.shed == .hold then
    if !flag && decide (0 < old.share c) && new.share c == 0 then
      handNotice (.classBlocked c)
        { s with cal := { s.cal with blocked := s.cal.blocked ||| BitVec.twoPow 8 c } }
    else s
  else if flag then
    handNotice (.classReleased c)
      { s with cal := { s.cal with blocked := s.cal.blocked &&& ~~~BitVec.twoPow 8 c } }
  else s

/-- Block flags after a recomputation of the live OUT map, class by class (R166). -/
def updateBlocks (old new : SlotMap) (s : State) : State :=
  classNumbers.foldl (updateBlock old new) s

/-- Stores a direction's live map. -/
def setLiveMap (d : Dir) (m : SlotMap) (s : State) : State :=
  { s with cal := { s.cal with live := s.cal.live.set d m } }

/-- Recomputation of the live map of a direction, its SWITCHED notice, and for OUT the block flags and
their notices (R161, R162, R166). -/
def recomputeLive (d : Dir) (epoch : Sfn) (s : State) : State :=
  let old := s.cal.live.get d
  let new := liveMapOf s d
  let t := handNotice (.switched d epoch new) (setLiveMap d new s)
  match d with
  | .inbound => t
  | .outbound => updateBlocks old new t

/-- Both directions, IN then OUT (R161). -/
def recomputeBoth (epoch : Sfn) (s : State) : State :=
  recomputeLive .outbound epoch (recomputeLive .inbound epoch s)

end Sys2Proof.Machine
end

