-- ==== Sys2Proof/Machine/Schedule.lean ====
section
/-! DEFINITION. The switch schedule: order, insertion of direction entries, withdrawals and forecasts, and
removal (R142 to R145, R152, R164, R165). -/

namespace Sys2Proof.Machine

/-- The entry of an owner (R143: at most one). -/
def State.entry (s : State) (o : Owner) : Option Entry := s.sws.find? fun e => e.owner == o

/-- The entry of a direction context. -/
def State.entryOf (s : State) (d : Dir) (l : Lane) : Option Entry := s.entry (.context d l)

/-- The epoch of the BANK entry, when there is one. -/
def State.bankEpoch (s : State) : Option Sfn := (s.entry .bank).map Entry.epoch

/-- The profile an entry switches to. -/
def Entry.profile (e : Entry) : Profile :=
  match e.switch with
  | .context _ _ p => p
  | .bank _ => 0

/-- Whether an entry is a direction entry of direction `d`. -/
def Entry.isDir (e : Entry) (d : Dir) : Bool :=
  match e.switch with
  | .context x _ _ => x == d
  | .bank _ => false

/-- Places an entry by its distance ahead of `n`, after the entries at the same distance (R143). -/
def insertSorted (n : Sfn) (e : Entry) : List Entry → List Entry
  | [] => [e]
  | x :: xs => if distance n x.epoch ≤ distance n e.epoch then x :: insertSorted n e xs else e :: x :: xs

/-- The entries of the other owners. -/
def withoutOwner (o : Owner) (es : List Entry) : List Entry := es.filter fun e => e.owner != o

/-! ## Forecasts and withdrawals (R145, R152, R164, R165) -/

/-- The profile of a lane in a forecast for `epoch`: the target of its entry when that is not later (R145). -/
def forecastProfile (s : State) (d : Dir) (epoch : Sfn) (l : Lane) : Profile :=
  match s.entryOf d l with
  | some e => if notEarlier s.sfn epoch e.epoch then e.profile else s.liveProfile d l
  | none => s.liveProfile d l

/-- The forecast map of a direction at an epoch (R164). -/
def forecastMap (s : State) (d : Dir) (epoch : Sfn) : SlotMap :=
  mapOf s (forecastProfile s d epoch .zero) (forecastProfile s d epoch .one)

/-- A forecast request: the map goes out as a CAPACITY-NOTICE (R164). -/
def forecast (d : Dir) (epoch : Sfn) (s : State) : State :=
  handNotice (.capacity d epoch (forecastMap s d epoch)) s

/-- A withdrawal: a CANCELLED notice, then a renewed forecast when another entry of the direction and epoch
remains (R152, R165). -/
def withdraw (d : Dir) (epoch : Sfn) (s : State) : State :=
  let t := handNotice (.cancelled d epoch) s
  if t.sws.any fun e => e.isDir d && e.epoch == epoch then forecast d epoch t else t

/-! ## Insertion (R144, R145) -/

/-- The checks of R144 on an insertion for owner `o` at epoch `e`. -/
def mayInsert (s : State) (o : Owner) (e : Sfn) : Bool :=
  liesInTime s.sfn e &&
  !((s.entry o).any Entry.committed) &&
  (match o with
    | .bank => true
    | .context _ _ => !(s.bankEpoch.any fun f => notEarlier s.sfn e f))

/-- The schedule with an entry in place of its owner's earlier one. -/
def scheduleEntry (e : Entry) (s : State) : State :=
  setSchedule (insertSorted s.sfn e (withoutOwner e.owner s.sws)) s

/-- The Out context's state follows the schedule (R74). -/
def setOutState (l : Lane) (x : OutState) (s : State) : State :=
  setOut l { s.outCtx l with state := x } s

/-- The owner of an inserted entry: an Out context becomes SCHEDULED (R74). -/
def markScheduled (d : Dir) (l : Lane) (s : State) : State :=
  match d with
  | .inbound => s
  | .outbound => setOutState l .scheduled s

/-- Insertion of a direction entry, with the withdrawal of a replaced epoch and the forecast (R144, R145). A
request that fails the checks changes nothing. -/
def insertDirection (d : Dir) (l : Lane) (target : Profile) (epoch : Sfn) (source : EntrySource)
    (s : State) : State :=
  if mayInsert s (.context d l) epoch then
    let t := markScheduled d l (scheduleEntry ⟨.context d l target, epoch, source, false⟩ s)
    let u := match s.entryOf d l with
      | some old => if old.epoch = epoch then t else withdraw d old.epoch t
      | none => t
    forecast d epoch u
  else s

/-! ## Removal (R152) -/

/-- Removal of a direction context's entry, with its withdrawal; nothing when there is none. -/
def removeDirection (d : Dir) (l : Lane) (s : State) : State :=
  match s.entryOf d l with
  | some e => withdraw d e.epoch (setSchedule (withoutOwner (.context d l) s.sws) s)
  | none => s

/-- Hands the withdrawals of entries already removed, in schedule order (R146, R152). -/
def withdrawAll : List Entry → State → State
  | [], s => s
  | e :: es, s =>
    withdrawAll es (match e.switch with
      | .context d _ _ => withdraw d e.epoch s
      | .bank _ => s)

/-- Commitment: every entry with epoch n + 1 becomes committed (R147). -/
def commitEntries (s : State) : State :=
  setSchedule (s.sws.map fun e => if e.epoch = sfnPlus s.sfn 1 then { e with committed := true } else e) s

end Sys2Proof.Machine
end

