-- ==== Sys2Proof/Machine/Engine.lean ====
section
/-! DEFINITION. The step engine: ASKs and decisions of the In contexts (R76 to R80, R97, R98), the settle of the
Out contexts (R84, R85), pins (R86, R87) and mask steps (R88). -/

namespace Sys2Proof.Machine

/-! ## Sending an ASK (R97) -/

/-- An ASK is handed to the lane's source slot, replacing an unsent one (R97, R131). -/
def handAsk (l : Lane) (m : AskMessage) (s : State) : State :=
  setTx { s.ohl.tx with ask := s.ohl.tx.ask.set l (some m) } s

/-- The In context sends an ASK with `retries` left: the toggle is flipped, the outstanding ASK is made in a
response wait, the ASK is handed over and counted (R97, R78). -/
def sendAskWith (l : Lane) (target : Profile) (urgency : Urgency) (retries : Nat) (s : State) : State :=
  let c := s.inCtx l
  let t := setIn l
    { c with
      state := .asking
      toggle := !c.toggle
      upHold := 0
      ask := some { target := target, urgency := urgency, toggle := !c.toggle, retries := retries
                    timer := s.params.responseTime, busy := false } } s
  bump (.se l .asksSent) (handAsk l ⟨target, urgency, !c.toggle⟩ t)

/-- A new ASK, with the retry count R (R97). -/
def sendAsk (l : Lane) (target : Profile) (urgency : Urgency) (s : State) : State :=
  sendAskWith l target urgency s.params.retryCount s

/-! ## Decisions (R76 to R80) -/

/-- The down rule applies: the grade is below the stay grade of p_in, or p_in is not allowed (R76). -/
def downApplies (s : State) (l : Lane) : Bool :=
  let p := (s.inCtx l).pIn
  decide ((s.grader l).grade < (s.liveBank.profile p).stay) || !allowed s .inbound l p

/-- The down target: the highest allowed profile below p_in whose stay grade the grade meets, or 0 (R76). -/
def downTarget (s : State) (l : Lane) : Profile :=
  (highestBelow (fun q => allowed s .inbound l q &&
    decide ((s.liveBank.profile q).stay ≤ (s.grader l).grade)) (s.inCtx l).pIn).getD 0

/-- Clears the up-hold counter (R78). -/
def clearUpHold (l : Lane) (s : State) : State := setIn l { s.inCtx l with upHold := 0 } s

/-- The pinned and down rules of R76; the second component says whether one of them applied. -/
def pinnedOrDown (l : Lane) (urgency : Urgency) (s : State) : State × Bool :=
  match (s.inCtx l).pin with
  | some p =>
    if (s.inCtx l).pIn = p then (clearUpHold l s, true)
    else (sendAsk l p .normal (clearUpHold l s), true)
  | none =>
    if downApplies s l then
      if downTarget s l = (s.inCtx l).pIn then (clearUpHold l s, true)
      else (sendAsk l (downTarget s l) urgency (clearUpHold l s), true)
    else (s, false)

/-- The up rule (R77). -/
def upRule (l : Lane) (s : State) : State :=
  let c := s.inCtx l
  match lowestAbove (allowed s .inbound l) c.pIn with
  | none => clearUpHold l s
  | some u =>
    if (s.grader l).grade < (s.liveBank.profile u).enter then clearUpHold l s
    else if (s.liveBank.profile u).upHold ≤ c.upHold + 1 then sendAsk l u .normal s
    else setIn l { c with upHold := c.upHold + 1 } s

/-- Records a deferred decision; an urgent cause makes it URGENT, and one that is present is else kept (R80). -/
def recordDeferred (l : Lane) (urgentCause : Bool) (s : State) : State :=
  let c := s.inCtx l
  let u := if urgentCause then .urgent else c.deferred.getD .normal
  setIn l { c with deferred := some u } s

/-- Clears the deferred decision (R80). -/
def clearDeferred (l : Lane) (s : State) : State := setIn l { s.inCtx l with deferred := none } s

/-- A re-decision with the urgency of the deferred decision, or the one given when none is present. While far
lane off is yes it is recorded instead (R80). -/
def reDecide (l : Lane) (urgency : Urgency) (s : State) : State :=
  let c := s.inCtx l
  if c.farLaneOff then recordDeferred l false s
  else clearDeferred l (pinnedOrDown l (c.deferred.getD urgency) s).1

/-- The deferred decision is taken when it is present, far lane off is no and the context is in STEADY (R80). -/
def takeDeferred (l : Lane) (s : State) : State :=
  let c := s.inCtx l
  match c.deferred with
  | some u => if c.state = .steady ∧ c.farLaneOff = false then reDecide l u s else s
  | none => s

/-- The context enters STEADY with no exchange in progress, and takes its deferred decision (R80). -/
def enterSteady (l : Lane) (s : State) : State :=
  takeDeferred l (setIn l { s.inCtx l with state := .steady, ask := none, awaited := none, holdReason := none } s)

/-- Kinds of a grade update (R26). -/
inductive UpdateKind where
  | windowClose | fastDrop | lockLoss
deriving DecidableEq, Repr

/-- Whether an update is urgent (R76). -/
def UpdateKind.urgent : UpdateKind → Bool
  | .windowClose => false
  | .fastDrop => true
  | .lockLoss => true

def UpdateKind.urgency (k : UpdateKind) : Urgency := if k.urgent then .urgent else .normal

/-- A decision in STEADY (R76). -/
def decideStep (l : Lane) (k : UpdateKind) (s : State) : State :=
  let r := pinnedOrDown l k.urgency s
  if r.2 then r.1 else if k = .windowClose then upRule l s else s

/-- A grade update in ASKING: a lower down target supersedes the outstanding ASK (R79). -/
def supersede (l : Lane) (k : UpdateKind) (s : State) : State :=
  match (s.inCtx l).pin, (s.inCtx l).ask with
  | none, some a =>
    if downApplies s l && decide (downTarget s l < a.target) then sendAsk l (downTarget s l) k.urgency s else s
  | _, _ => s

/-- A grade update reaches the In context of its lane (R76, R78, R79, R80). A FAST-DROP or LOCK-LOSS update that meets
none of the rules of R76 clears the up-hold counter, as R78 says of every such update, although R76 says that it
leaves the counter (log 23). -/
def gradeUpdate (l : Lane) (k : UpdateKind) (s : State) : State :=
  let s := if k.urgent then clearUpHold l s else s
  match (s.inCtx l).state with
  | .steady => if (s.inCtx l).farLaneOff then recordDeferred l k.urgent s else decideStep l k s
  | .asking => supersede l k s
  | .awaiting => recordDeferred l k.urgent s
  | .awaitingTag => recordDeferred l k.urgent s
  | .held => s
  | .silent => s

/-! ## Internal switches of the Out contexts (R84, R85) -/

/-- The epoch of an internal switch under the flip fence: none when the switch is dropped (R85). -/
def fencedEpoch (s : State) (epoch : Sfn) : Option Sfn :=
  match s.bankEpoch with
  | none => some epoch
  | some f =>
    if notEarlier s.sfn epoch f then
      if liesInTime s.sfn (f - 1) then some (f - 1) else none
    else some epoch

/-- An internal switch of an Out context, subject to the flip fence (R84 step 5, R85). -/
def internalSwitch (l : Lane) (target : Profile) (lead : Nat) (source : EntrySource) (s : State) : State :=
  match fencedEpoch s (sfnPlus s.sfn lead) with
  | some e => insertDirection .outbound l target e source s
  | none => s

/-- What a settle works from: the profile wanted, the source of an entry and its lead (R84). -/
def settleWanted (l : Lane) (s : State) : Option (Profile × EntrySource × Nat) :=
  let c := s.outCtx l
  match c.mode with
  | .pinned => c.pin.map fun p => (p, .pin, s.params.longLead)
  | .fallback => some (0, .silence, s.params.shortLead)
  | .adaptive =>
    let outcome := match s.entryOf .outbound l with
      | some e => e.profile
      | none => c.pOut
    if allowed s .outbound l outcome then none
    else some ((highestBelow (allowed s .outbound l) outcome).getD 0, .mask, s.params.longLead)

/-- The settle of an Out context; `maskStep` says that a mask step caused it. Not taken for a disabled lane
(R84). -/
def settle (l : Lane) (maskStep : Bool) (s : State) : State :=
  if s.enabled l then
    match settleWanted l s with
    | none => s
    | some (w, source, lead) =>
      match s.entryOf .outbound l with
      | none => if w = (s.outCtx l).pOut then s else internalSwitch l w lead source s
      | some e =>
        if e.committed then s
        else if maskStep then s
        else if e.profile = w then s
        else if w = (s.outCtx l).pOut then setOutState l .steady (removeDirection .outbound l s)
        else internalSwitch l w lead source s
  else s

/-! ## Pins (R86, R87) -/

/-- PIN and UNPIN: an Out context's pin, its mode with it, and the settle (R86). -/
def pinOut (l : Lane) (p : Profile) (s : State) : State :=
  settle l false (setOut l { s.outCtx l with pin := some p, mode := .pinned } s)

def unpinOut (l : Lane) (s : State) : State :=
  settle l false
    (setOut l { s.outCtx l with pin := none, mode := if s.se.peerSilent then .fallback else .adaptive } s)

/-- The effects of a PIN on an In context (R86). -/
def pinIn (l : Lane) (p : Profile) (s : State) : State :=
  let t := setIn l { s.inCtx l with pin := some p } s
  let c := t.inCtx l
  match c.state with
  | .steady => reDecide l .normal t
  | .asking =>
    match c.ask with
    | some a => if a.target = p then recordDeferred l false t else sendAsk l p .normal t
    | none => recordDeferred l false t
  | .awaiting => recordDeferred l false t
  | .awaitingTag => recordDeferred l false t
  | .held => t
  | .silent => t

/-- The pin that takes the place of one outside the allowed set, when there is such a pin (R87). -/
def replacedPin (s : State) (d : Dir) (l : Lane) (pin : Option Profile) : Option Profile :=
  match pin with
  | some p => if allowed s d l p then none else some ((highestBelow (allowed s d l) p).getD 0)
  | none => none

/-- Pin maintenance of an Out context: the pin's value (R87). -/
def maintainOutPin (l : Lane) (s : State) : State :=
  match replacedPin s .outbound l (s.outCtx l).pin with
  | some q => setOut l { s.outCtx l with pin := some q } s
  | none => s

/-- Pin maintenance of an In context: the pin's value (R87). The effects of a new PIN follow where the caller
takes them (log 12, log 13). -/
def maintainInPin (l : Lane) (s : State) : State :=
  match replacedPin s .inbound l (s.inCtx l).pin with
  | some q => setIn l { s.inCtx l with pin := some q } s
  | none => s

/-- Pin maintenance of an In context with the replaced pin treated as a new PIN (R87). -/
def repinIn (l : Lane) (s : State) : State :=
  match replacedPin s .inbound l (s.inCtx l).pin with
  | some q => pinIn l q s
  | none => s

/-! ## Mask steps (R67, R88) -/

/-- Whether a pin stands in a set of profiles. -/
def pinStandsIn (pin : Option Profile) (x : ProfileSet) : Bool := pin.any (inSet x)

/-- The mask step of an OUT mask (R88). -/
def maskStepOut (l : Lane) (removed : ProfileSet) (s : State) : State :=
  let c := s.outCtx l
  if inSet removed c.pOut then settle l true (maintainOutPin l s)
  else if pinStandsIn c.pin removed then settle l false (maintainOutPin l s)
  else s

/-- A mask step or a PIN finds an In context whose decision falls due (R80, R88). -/
def maskDecision (l : Lane) (s : State) : State :=
  match (s.inCtx l).state with
  | .steady => reDecide l .normal s
  | .asking => recordDeferred l false s
  | .awaiting => recordDeferred l false s
  | .awaitingTag => recordDeferred l false s
  | .held => s
  | .silent => s

/-- The mask step of an IN mask (R88). -/
def maskStepIn (l : Lane) (removed : ProfileSet) (s : State) : State :=
  let c := s.inCtx l
  if inSet removed c.pIn then maskDecision l (repinIn l s)
  else if pinStandsIn c.pin removed then repinIn l s
  else s

/-- The mask step of a lane and direction (R88). -/
def maskStep (d : Dir) (l : Lane) (removed : ProfileSet) (s : State) : State :=
  match d with
  | .inbound => maskStepIn l removed s
  | .outbound => maskStepOut l removed s

/-! ## Silence and recovery (R90) -/

/-- The silence expiry at an Out context. One that is not pinned falls back to profile 0 (R90, log 10); one that is
pinned keeps its mode and is settled, as every Out context is (R84, log 11). -/
def fallbackOut (l : Lane) (s : State) : State :=
  match (s.outCtx l).mode with
  | .pinned => settle l false s
  | _ =>
    let t := setOut l { s.outCtx l with mode := .fallback } s
    match t.entryOf .outbound l with
    | some e => if e.committed then t else internalSwitch l 0 t.params.shortLead .silence t
    | none => if (t.outCtx l).pOut = 0 then t else internalSwitch l 0 t.params.shortLead .silence t

/-- The silence expiry at an In context (R90). -/
def silenceIn (l : Lane) (s : State) : State :=
  setIn l { s.inCtx l with
    state := .silent, ask := none, awaited := none, upHold := 0, holdReason := none, deferred := none } s

/-- The silence expiry at the SE; it changes nothing while the mark is set (R90). The record being built takes
the mark (R183). -/
def silenceExpiry (s : State) : State :=
  if s.se.peerSilent then s
  else
    let t := raise .peerSilent (setPeerSilent true s)
    let t := setBuilding { t.prc.building with peerSilent := true } t
    silenceIn .one (silenceIn .zero (fallbackOut .one (fallbackOut .zero t)))

/-- An Out context in FALLBACK becomes ADAPTIVE (R90). -/
def adaptOut (l : Lane) (s : State) : State :=
  if (s.outCtx l).mode = .fallback then setOut l { s.outCtx l with mode := .adaptive } s else s

/-- The recovery at an Out context (R90): every one is settled, a pinned one too (R84, log 11). -/
def recoverOut (l : Lane) (s : State) : State := settle l false (adaptOut l s)

/-- The recovery at an In context (R90). -/
def recoverIn (l : Lane) (s : State) : State :=
  if (s.inCtx l).state = .silent then reDecide l .normal (setIn l { s.inCtx l with state := .steady } s) else s

/-- The first good frame of a silence ends it (R90). -/
def peerHeard (s : State) : State :=
  if s.se.peerSilent then
    recoverIn .one (recoverIn .zero (recoverOut .one (recoverOut .zero
      (raise .peerHeard (setPeerSilent false s)))))
  else s

/-! ## Tag follow (R106 to R108) -/

/-- Whether the exchange of an In context is for profile `t`: the outstanding ASK's target in ASKING, the awaited
target in AWAITING and AWAITING-TAG (R107 step 3). -/
def InContext.seeks (c : InContext) (t : Profile) : Bool :=
  match c.state with
  | .asking => c.ask.any fun a => a.target == t
  | .awaiting => c.awaited.any fun a => a.target == t
  | .awaitingTag => c.awaited.any fun a => a.target == t
  | .steady => false
  | .held => false
  | .silent => false

/-- HELD and SILENT keep their state at a tag adoption (R107 step 4). -/
def InState.keptByAdoption : InState → Bool
  | .held => true
  | .silent => true
  | .steady => false
  | .asking => false
  | .awaiting => false
  | .awaitingTag => false

/-- The record of an In context that has adopted tag `t` (R107 steps 1, 3 and 4). -/
def InContext.adopted (c : InContext) (t : Profile) : InContext :=
  { c with
    pIn := t, upHold := 0, tagRun := none, ask := none, awaited := none
    state := if c.state.keptByAdoption then c.state else .steady
    holdReason := if c.state.keptByAdoption then c.holdReason else none }

/-- The uncommitted In entry of a lane is removed with its withdrawal; a committed one stays (R107 step 2). -/
def dropInEntry (l : Lane) (s : State) : State :=
  match s.entryOf .inbound l with
  | some e => if e.committed then s else removeDirection .inbound l s
  | none => s

/-- A tag adoption that concludes no exchange is a divergence (R107 step 4). -/
def countDivergence (l : Lane) (s : State) : State := raise .divergence (bump (.se l .divergences) s)

/-- The adoption of a received tag (R107), with the withdrawal of the removed entry, the recomputation of the IN
map and its notice (R161, R162). -/
def adoptTag (l : Lane) (t : Profile) (s : State) : State :=
  let c := s.inCtx l
  let u := dropInEntry l (setIn l (c.adopted t) s)
  let v := if c.seeks t then u else countDivergence l u
  let w := recomputeLive .inbound v.sfn v
  if c.state = .steady then w else takeDeferred l w

/-- The tag run reaches count 2 (R107, R108). -/
def runComplete (l : Lane) (t : Profile) (s : State) : State :=
  if s.liveBank.valid t then adoptTag l t s
  else bump (.se l .bankDivergences) (setIn l { s.inCtx l with tagRun := some ⟨t, 2⟩ } s)

/-- The tag-follow input of a report of the selected branch: a received tag with the planned In profile, or a
break (R106). -/
def tagInput (l : Lane) (tag : Option Profile) (plan : Profile) (s : State) : State :=
  let c := s.inCtx l
  match tag with
  | none => setIn l { c with tagRun := none } s
  | some t =>
    if t = plan ∨ t = c.pIn then setIn l { c with tagRun := none } s
    else
      match c.tagRun with
      | some r =>
        if r.tag = t then (if r.count = 1 then runComplete l t s else s)
        else setIn l { c with tagRun := some ⟨t, 1⟩ } s
      | none => setIn l { c with tagRun := some ⟨t, 1⟩ } s

/-! ## Response and tag timers (R98, R102, R105) -/

/-- The expiry of a response wait (R98). -/
def responseExpiry (l : Lane) (a : OutstandingAsk) (s : State) : State :=
  if 0 < a.retries then
    let t := setIn l { s.inCtx l with
      ask := some { a with retries := a.retries - 1, timer := s.params.responseTime, busy := false } } s
    bump (.se l .asksSent) (handAsk l ⟨a.target, a.urgency, a.toggle⟩ t)
  else bump (.se l .asksFailed) s |> enterSteady l

/-- The expiry of a busy wait: the target is sent again with a flipped toggle, retries kept (R105). -/
def busyExpiry (l : Lane) (a : OutstandingAsk) (s : State) : State :=
  sendAskWith l a.target a.urgency a.retries s

/-- The expiry of the tag timer in AWAITING-TAG (R102). -/
def tagExpiry (l : Lane) (s : State) : State :=
  bump (.se l .unanchoredGrants) s |> enterSteady l

/-- The response timer's share of a start event (R98, R105). -/
def tickResponse (l : Lane) (s : State) : State :=
  match (s.inCtx l).ask with
  | none => s
  | some a =>
    if a.timer ≤ 1 then (if a.busy then busyExpiry l a s else responseExpiry l a s)
    else setIn l { s.inCtx l with ask := some { a with timer := a.timer - 1 } } s

/-- The tag timer's share of a start event (R102). -/
def tickTag (l : Lane) (s : State) : State :=
  match (s.inCtx l).awaited with
  | none => s
  | some w =>
    match w.tagTimer with
    | none => s
    | some n =>
      if n ≤ 1 then tagExpiry l s
      else setIn l { s.inCtx l with awaited := some { w with tagTimer := some (n - 1) } } s

/-! ## Completion of direction entries (R102, R148, R149) -/

/-- The count of a completion against the owner's lane (R149). -/
def countSwitch (l : Lane) (before after : Profile) (s : State) : State :=
  if before = after then s
  else
    let x := s.prc.building.lanes.get l
    let t := setSecond l { x with switches := satAdd Config.counterMax x.switches 1 } s
    if before < after then bump (.se l .switchesUp) t else bump (.se l .switchesDown) t

/-- The completion of one direction entry: the owner takes the target and is told (R102, R148). -/
def completeEntry (d : Dir) (l : Lane) (target : Profile) (s : State) : State :=
  let s := countSwitch l (s.liveProfile d l) target (setSchedule (withoutOwner (.context d l) s.sws) s)
  match d with
  | .outbound => settle l false (setOut l { s.outCtx l with pOut := target, state := .steady } s)
  | .inbound =>
    let t := setIn l { s.inCtx l with pIn := target, upHold := 0 } s
    if (s.inCtx l).state = .awaiting then enterSteady l t else t

/-- Completion of entries in turn; the BANK entry is not one of them. -/
def completeEach : List Entry → State → State
  | [], s => s
  | e :: es, s =>
    completeEach es (match e.switch with
      | .context d l p => completeEntry d l p s
      | .bank _ => s)

/-- The directions of entries, in the order of the first of each (R149). -/
def directionsOf (es : List Entry) : List Dir :=
  match es.find? fun e => e.isDir .inbound || e.isDir .outbound with
  | none => []
  | some e =>
    let first := if e.isDir .inbound then Dir.inbound else .outbound
    let second := if e.isDir .inbound then Dir.outbound else .inbound
    first :: (if es.any fun e => e.isDir second then [second] else [])

/-- The direction entries whose epoch is the current SFN. -/
def dueEntries (s : State) : List Entry :=
  s.sws.filter fun e => (e.owner != .bank) && e.epoch == s.sfn

/-- Every direction entry whose epoch is current completes, and then each direction concerned has its live map
recomputed (R148, R149, R161). -/
def completeDirections (s : State) : State :=
  let due := dueEntries s
  (directionsOf due).foldl (fun t d => recomputeLive d t.sfn t) (completeEach due s)

end Sys2Proof.Machine
end

