-- ==== Sys2Proof/Machine/Recorder.lean ====
section
/-! DEFINITION. The performance recorder: contributions to the seconds record being built (R183), the latch
(R184) and the profile histogram (R186). -/

namespace Sys2Proof.Machine

/-! ## Contributions to the record being built (R183) -/

/-- A lane's part of the record being built, changed by `f`. -/
def updateSecond (l : Lane) (f : LaneSecond → LaneSecond) (s : State) : State :=
  setSecond l (f (s.prc.building.lanes.get l)) s

/-- A grade the lane produces lowers the worst grade and raises the best grade. -/
def LaneSecond.withGrade (x : LaneSecond) (g : Nat) : LaneSecond :=
  { x with worstGrade := min x.worstGrade g, bestGrade := max x.bestGrade g }

/-- The counts of a locked report of the selected branch. -/
def LaneSecond.withErrors (x : LaneSecond) (corrected uncorrected : Nat) : LaneSecond :=
  { x with
    correctedTotal := satAdd Config.wideMax x.correctedTotal corrected
    uncorrectedTotal := satAdd Config.counterMax x.uncorrectedTotal uncorrected }

/-- One unlocked or missing superframe of the selected branch (log 14). -/
def LaneSecond.withUnlocked (x : LaneSecond) : LaneSecond :=
  { x with unlocked := satAdd Config.unlockedMax x.unlocked 1 }

/-- One fast drop or lock loss. -/
def LaneSecond.withFastDrop (x : LaneSecond) : LaneSecond :=
  { x with fastDrops := satAdd Config.counterMax x.fastDrops 1 }

/-- The worse of two margin states (R32). -/
def worseMargin : Margin → Margin → Margin
  | .failing, _ => .failing
  | _, .failing => .failing
  | .thin, _ => .thin
  | _, .thin => .thin
  | .fair, _ => .fair
  | _, .fair => .fair
  | .good, .good => .good

/-- A far margin state stored from a BEACON (R136). -/
def LaneSecond.withFarMargin (x : LaneSecond) (m : Margin) : LaneSecond :=
  { x with worstFarMargin := some (match x.worstFarMargin with
      | some w => worseMargin w m
      | none => m) }

/-- A sampled plan word at one lane: a disabled lane changes only its enabled-at-the-end field. -/
def LaneSecond.withPlan (x : LaneSecond) (w : LanePlan) : LaneSecond :=
  if w.enabled then
    { x with
      lowestIn := if w.inProfile < x.lowestIn then w.inProfile else x.lowestIn
      lowestOut := if w.outProfile < x.lowestOut then w.outProfile else x.lowestOut
      endIn := w.inProfile
      enabledAtEnd := true }
  else { x with enabledAtEnd := false }

/-- The plan word of the current superframe is sampled (R183 step 1). -/
def samplePlan (s : State) : State :=
  let w := s.mdp.history.current
  updateSecond .one (·.withPlan w.lanes.lane1) (updateSecond .zero (·.withPlan w.lanes.lane0) s)

/-! ## The latch (R184) -/

/-- A lane's part of a record that begins from the plan word given, at a grade. -/
def LaneSecond.begin (w : LanePlan) (grade : Nat) : LaneSecond :=
  { worstGrade := grade, bestGrade := grade, correctedTotal := 0, uncorrectedTotal := 0, unlocked := 0
    lowestIn := w.inProfile, lowestOut := w.outProfile, endIn := w.inProfile, enabledAtEnd := w.enabled
    switches := 0, fastDrops := 0, worstFarMargin := none }

/-- The record that begins at a latch, from the plan word just sampled. -/
def nextSecond (s : State) (w : PlanWord) : SecondsRecord :=
  { sequence := s.prc.building.sequence + 1
    lockLost := false
    peerSilent := s.se.peerSilent
    flipCompleted := false
    lanes := ⟨.begin w.lanes.lane0 s.qg.lane0.grade, .begin w.lanes.lane1 s.qg.lane1.grade⟩ }

/-- The latch: the record being built joins the ring as its newest, RECORD-READY is raised, and the next record
begins from the plan word `w` (R184). -/
def latch (w : PlanWord) (s : State) : State :=
  raise .recordReady { s with prc := { s.prc with
    ring := (s.prc.building :: s.prc.ring).take Config.ringCapacity
    building := nextSecond s w
    second := 0 } }

/-- The second counter's share of a start event, with the latch when it has reached N_sec; `w` is the plan word
just sampled (R183 step 2). -/
def tickSecond (w : PlanWord) (s : State) : State :=
  let t := { s with prc := { s.prc with second := s.prc.second + 1 } }
  if s.params.secondLength ≤ t.prc.second then latch w t else t

/-! ## The profile histogram (R186) -/

/-- Sixteen bins at 0. -/
def emptyBins : Vector Nat 16 := Vector.replicate 16 0

/-- All 64 bins at 0. -/
def emptyHistogram : PerLane (PerDir (Vector Nat 16)) := ⟨⟨emptyBins, emptyBins⟩, ⟨emptyBins, emptyBins⟩⟩

def setHistogram (h : PerLane (PerDir (Vector Nat 16))) (s : State) : State :=
  { s with prc := { s.prc with histogram := h } }

/-- One count in the bin of a profile. -/
def countBin (bins : Vector Nat 16) (p : Profile) : Vector Nat 16 :=
  bins.set p (satAdd Config.wideMax bins[p] 1)

/-- A lane's bins after a plan word. -/
def countLane (w : LanePlan) (bins : PerDir (Vector Nat 16)) : PerDir (Vector Nat 16) :=
  if w.enabled then ⟨countBin bins.inbound w.inProfile, countBin bins.outbound w.outProfile⟩ else bins

/-- The histogram's share of a start event: cleared first when the word carries the flip marker (R186). -/
def countPlan (s : State) : State :=
  let w := s.mdp.history.current
  let h := if w.flipMarker then emptyHistogram else s.prc.histogram
  setHistogram ⟨countLane w.lanes.lane0 h.lane0, countLane w.lanes.lane1 h.lane1⟩ s

end Sys2Proof.Machine
end

