-- ==== Sys2Proof/Machine/Grader.lean ====
section
/-! DEFINITION. The quality grader: windows, grades, single-report checks and branch selection (R18 to R31,
R38 to R48). -/

namespace Sys2Proof.Machine

/-! ## Windows and grades -/

/-- The effective metric and the effective uncorrected count of a report (R18). -/
def effective (r : QualityReport) : Nat × Nat :=
  if r.locked then (r.mse.toNat, r.uncorrected.toNat) else (Config.metricMax, Config.unlockedErrors)

/-- The number of thresholds T1..T15 that a value meets (R25, R39). -/
def gradeOf (thresholds : Vector Nat 15) (x : Nat) : Nat :=
  thresholds.toList.countP fun t => decide (x ≤ t)

/-- Threshold T_g; there is none at grade 0 (R24). -/
def thresholdAt (thresholds : Vector Nat 15) (g : Nat) : Option Nat :=
  if g = 0 then none else thresholds[g - 1]?

/-- The window mean, rounded to the nearest whole number (R21). -/
def windowMean (window sum : Nat) : Nat := (sum + window / 2) / window

/-- The adjusted metric of a window that closes (R22). -/
def adjusted (p : LaneParams) (b : BranchGrader) : Nat :=
  min Config.metricMax (windowMean p.window b.sum + p.penalty * b.uncorrected)

/-- The new grade at a selected close (R25). -/
def closeGrade (p : LaneParams) (grade metric : Nat) : Nat :=
  let g := gradeOf p.thresholds metric
  if g ≤ grade then g else max grade (gradeOf p.thresholds (metric + p.hysteresis))

/-- A window with no reports; the last adjusted metric and the latest lock stay (R23). -/
def BranchGrader.emptied (b : BranchGrader) : BranchGrader := { b with sum := 0, uncorrected := 0, count := 0 }

/-- A report added to the open window (R20). -/
def BranchGrader.adding (b : BranchGrader) (e u : Nat) : BranchGrader :=
  { b with sum := b.sum + e, uncorrected := b.uncorrected + u, count := b.count + 1 }

/-- A branch's grader state, rewritten. -/
def setBranch (l : Lane) (b : Branch) (x : BranchGrader) (s : State) : State :=
  setGrader l { s.grader l with branches := (s.grader l).branches.set b x } s

/-- A grade the lane produces: it enters the grade, the worst grade and the seconds record (R26, R28, R41). -/
def produceGrade (l : Lane) (g : Nat) (s : State) : State :=
  updateSecond l (·.withGrade g)
    (setGrader l { s.grader l with grade := g, worst := min (s.grader l).worst g } s)

/-- The restart values of a lane's grader; the grade 0 it returns to is a grade produced (R28, R34). -/
def restartGrader (l : Lane) (s : State) : State :=
  updateSecond l (·.withGrade 0) (setGrader l .restart s)

/-! ## Branch selection (R45 to R48) -/

/-- A switch of the current selection to branch `o` (R47). -/
def switchBranch (l : Lane) (o : Branch) (s : State) : State :=
  let g := s.grader l
  setGrader l { g with
    selected := o
    hold := (s.laneParams l).branchHold
    branches := g.branches.set o (g.branches.get o).emptied } s

/-- The branch that a fixed mode holds to. -/
def BranchMode.fixed : BranchMode → Option Branch
  | .auto => none
  | .fixedMain => some .main
  | .fixedDiv => some .div

/-- The margin check at a selected close of branch `b` with adjusted metric `metric` (R45). -/
def marginSwitches (s : State) (l : Lane) (b : Branch) (metric : Nat) : Bool :=
  let g := s.grader l
  (s.laneParams l).branchMode == .auto && g.selected == b && g.hold == 0 &&
    match (g.branches.get (otherBranch b)).lastMetric with
    | none => false
    | some x => decide (x < metric) && decide ((s.laneParams l).branchMargin ≤ metric - x)

/-- The immediate branch check at a lock loss on branch `b` (R46). -/
def lockLossSwitches (s : State) (l : Lane) (b : Branch) : Bool :=
  let g := s.grader l
  (s.laneParams l).branchMode == .auto && g.selected == b && (g.branches.get (otherBranch b)).latestLock

/-- The margin check, and the countdown of the hold counter when it has not switched (R45, R47). -/
def closeBranchCheck (l : Lane) (b : Branch) (metric : Nat) (s : State) : State :=
  if marginSwitches s l b metric then switchBranch l (otherBranch b) s
  else setGrader l { s.grader l with hold := (s.grader l).hold - 1 } s

/-- Fixed-mode selection at a report whose superframe's selected branch is `selected` (R48). -/
def fixedSelection (l : Lane) (selected : Branch) (s : State) : State :=
  match (s.laneParams l).branchMode.fixed with
  | none => s
  | some x => if (s.grader l).selected = x ∨ selected = x then s else switchBranch l x s

/-! ## Single-report checks (R38, R39, R41) -/

/-- The window of a branch is restarted by a check, and the fast-drop counts rise (R38, R39, R41). -/
def dropGrade (l : Lane) (b : Branch) (g : Nat) (s : State) : State :=
  let t := produceGrade l g s
  let u := setBranch l b ((t.grader l).branches.get b).emptied t
  bump (.se l .fastDrops) (updateSecond l (·.withFastDrop) u)

/-- A lock loss on branch `b` (R38). -/
def lockLoss (l : Lane) (b : Branch) (s : State) : State :=
  let t := dropGrade l b 0 s
  let u := if lockLossSwitches t l b then switchBranch l (otherBranch b) t else t
  gradeUpdate l .lockLoss u

/-- The fast-drop test (R39). -/
def fastDropFires (s : State) (l : Lane) (e : Nat) : Bool :=
  match thresholdAt (s.laneParams l).thresholds (s.grader l).grade with
  | none => false
  | some t => decide (t + (s.laneParams l).fastDropMargin < e)

/-- A fast drop on branch `b` to the instant grade (R39). -/
def fastDrop (l : Lane) (b : Branch) (e : Nat) (s : State) : State :=
  gradeUpdate l .fastDrop (dropGrade l b (gradeOf (s.laneParams l).thresholds e) s)

/-! ## Processing of a report (R19) -/

/-- The close of a window: the adjusted metric is stored and the accumulators cleared; a selected close goes on
to the grade, its update and the branch checks (R19 step 6, R22, R23, R25, R26). -/
def closeWindow (l : Lane) (b : Branch) (belongs : Bool) (s : State) : State :=
  let w := (s.grader l).branches.get b
  let a := adjusted (s.laneParams l) w
  let t := setBranch l b { w.emptied with lastMetric := some a } s
  if belongs then
    closeBranchCheck l b a
      (gradeUpdate l .windowClose (produceGrade l (closeGrade (s.laneParams l) (s.grader l).grade a) t))
  else t

/-- Steps 5 and 6 of R19. -/
def addReport (r : QualityReport) (belongs : Bool) (s : State) : State :=
  let e := effective r
  let w := ((s.grader r.lane).branches.get r.branch).adding e.1 e.2
  let t := setBranch r.lane r.branch w s
  if (s.laneParams r.lane).window ≤ w.count then closeWindow r.lane r.branch belongs t else t

/-- The report's contribution to the seconds record being built (R19 step 3). -/
def contribute (r : QualityReport) (s : State) : State :=
  updateSecond r.lane
    (fun x => if r.locked then x.withErrors r.corrected.toNat r.uncorrected.toNat else x.withUnlocked) s

/-- Step 3 of R19: selected lock, contribution, tag-follow input. -/
def selectedReport (r : QualityReport) (plan : Profile) (s : State) : State :=
  let t := setGrader r.lane { s.grader r.lane with selectedLock := r.locked } s
  tagInput r.lane (if r.locked then r.tag else none) plan (contribute r t)

/-- Step 2 of R19. -/
def noteLock (r : QualityReport) (s : State) : State :=
  setBranch r.lane r.branch { (s.grader r.lane).branches.get r.branch with latestLock := r.locked } s

/-- The QG processes a report with the selected branch and In profile of its superframe's plan word (R19, R48). -/
def processReport (r : QualityReport) (selected : Branch) (plan : Profile) (s : State) : State :=
  let t := fixedSelection r.lane selected (noteLock r s)
  if r.branch = selected then
    let u := selectedReport r plan t
    if r.locked then
      if fastDropFires u r.lane r.mse.toNat then fastDrop r.lane r.branch r.mse.toNat u else addReport r true u
    else lockLoss r.lane r.branch u
  else addReport r false t

end Sys2Proof.Machine
end

