-- ==== Sys2Proof/Machine/Flip.lean ====
section
/-! DEFINITION. The BANK entry and its fence (R146), the flip completion (R70, R91, R117, R150), and the flip
coordinator's side of the flip protocol (R109 to R116). -/

namespace Sys2Proof.Machine

/-! ## Insertion of a BANK entry (R144, R146) -/

/-- Whether the fence of a BANK entry at `f` removes an entry (R146). -/
def fenceRemoves (n f : Sfn) (e : Entry) : Bool := (e.owner != .bank) && notEarlier n e.epoch f

/-- The owner of an entry that the fence removed is told (R146). -/
def tellFenced (s : State) (e : Entry) : State :=
  match e.switch with
  | .context .outbound l _ => setOutState l .steady s
  | .context .inbound l _ => if (s.inCtx l).state = .awaiting then enterSteady l s else s
  | .bank _ => s

/-- The fence: the direction entries not earlier than `f` leave, each with a withdrawal, and their owners are
told (R146). -/
def fence (f : Sfn) (s : State) : State :=
  let gone := s.sws.filter (fenceRemoves s.sfn f)
  let t := withdrawAll gone (setSchedule (s.sws.filter fun e => !fenceRemoves s.sfn f e) s)
  gone.foldl tellFenced t

/-- Insertion of a BANK entry for the staged bank (R144, R146). -/
def insertBank (epoch : Sfn) (s : State) : State :=
  if mayInsert s .bank epoch then
    scheduleEntry ⟨.bank s.pst.staged, epoch, .flip, false⟩ (fence epoch s)
  else s

/-! ## Flip completion -/

/-- The bank swap: the named bank becomes live and the other one is staged in EDITING; each digest stays with
its bank (R70). -/
def swapBanks (target : BankId) (s : State) : State :=
  { s with pst := { s.pst with live := target, status := .editing } }

/-- Both contexts of a lane take the remap of their profiles under the live bank (R69, R70). -/
def remapLane (l : Lane) (s : State) : State :=
  let t := setIn l { s.inCtx l with pIn := remap s s.liveBank .inbound l (s.inCtx l).pIn } s
  setOut l { t.outCtx l with pOut := remap t t.liveBank .outbound l (t.outCtx l).pOut } t

/-- The states that a flip completion ends: ASKING, AWAITING-TAG, and HELD with the reason BANK (R91). -/
def InContext.endsAtFlip (c : InContext) : Bool :=
  match c.state with
  | .asking => true
  | .awaitingTag => true
  | .held => c.holdReason == some .bank
  | .steady => false
  | .awaiting => false
  | .silent => false

/-- The flip completion at one In context, before its re-decision (R91). -/
def flipIn (l : Lane) (s : State) : State :=
  let t := maintainInPin l (setIn l { s.inCtx l with refused := 0, upHold := 0 } s)
  let c := t.inCtx l
  if c.endsAtFlip then
    setIn l { c with state := .steady, ask := none, awaited := none, holdReason := none } t
  else t

/-- The re-decision of an In context that stands in STEADY at a flip completion (R91). -/
def flipReDecide (l : Lane) (s : State) : State :=
  if (s.inCtx l).state = .steady then reDecide l .normal s else s

/-- The context work of a flip completion (R91). -/
def flipContexts (s : State) : State :=
  let t := maintainOutPin .one (maintainOutPin .zero (flipIn .one (flipIn .zero s)))
  settle .one false (settle .zero false (flipReDecide .one (flipReDecide .zero t)))

/-- The coordinator's part of a flip completion, FLIP-DONE, and the record being built (R117, R183). -/
def flipDone (s : State) : State :=
  let t := setCoordinator { s.se.flip with lastAgreement := none, divergence := 0 } s
  setBuilding { t.prc.building with flipCompleted := true } (raise .flipDone t)

/-- The flip completion (R150): swap and remap, live maps, context work, coordinator. -/
def flipCompletion (target : BankId) (s : State) : State :=
  let t := remapLane .one (remapLane .zero (swapBanks target s))
  flipDone (flipContexts (recomputeBoth t.sfn t))

/-- The bank a BANK entry makes live. -/
def Entry.bankTarget (e : Entry) : Option BankId :=
  match e.switch with
  | .bank x => some x
  | .context _ _ _ => none

/-- The BANK entry whose epoch is the current SFN, when there is one: the bank it makes live. -/
def dueBank (s : State) : Option BankId :=
  match s.entry .bank with
  | some e => if e.epoch = s.sfn then e.bankTarget else none
  | none => none

/-- A BANK entry whose epoch is current completes (R150). -/
def completeBank (s : State) : State :=
  match dueBank s with
  | some x => flipCompletion x (setSchedule (withoutOwner .bank s.sws) s)
  | none => s

/-! ## Messages of the coordinator -/

/-- An answer is handed to the FLIP-ANSWER slot (R113, R131). -/
def handFlipAnswer (m : FlipAnswer) (s : State) : State :=
  setTx { s.ohl.tx with flipAnswer := some m } s

/-- A FLIP-OFFER is handed to its slot, with the station id as it stands (R111, R112). -/
def handOffer (o : OutstandingOffer) (s : State) : State :=
  setTx { s.ohl.tx with flipOffer := some ⟨o.toggle, o.digest, o.epoch, s.params.stationId⟩ } s

/-- The outstanding offer ends with the outcome given, and the staged status becomes the one given (R110). -/
def endOffer (outcome : FlipOutcome) (x : StagedStatus) (s : State) : State :=
  setStatus x (setCoordinator { s.se.flip with offer := none, lastOutcome := some outcome } s)

/-! ## The flip protocol -/

/-- An epoch of the peer's count in the local count: none without the offset lock (R100, R113). -/
def localEpoch (s : State) (epoch : Sfn) : Option Sfn :=
  match s.ohl.lock.state with
  | .locked => s.ohl.lock.offset.map fun o => epoch - o
  | .hunt => none
  | .confirm => none

/-- The epoch of an offer when it can be agreed: LOCKED, and 2..4096 ahead (R113 step 6). -/
def offerEpoch (s : State) (epoch : Sfn) : Option Sfn := (localEpoch s epoch).filter (liesInTime s.sfn)

/-- The agreement to an incoming offer (R113 step 7). -/
def agreeOffer (toggle : Bool) (digest : Digest) (epoch e : Sfn) (s : State) : State :=
  let t := setStatus .agreed (insertBank e s)
  handFlipAnswer (.agree toggle digest epoch)
    (setCoordinator { t.se.flip with lastAgreement := some ⟨toggle, digest, epoch⟩ } t)

/-- Steps 3 to 7 of R113. -/
def checkOffer (toggle : Bool) (digest : Digest) (epoch : Sfn) (s : State) : State :=
  if s.pst.status = .editing then handFlipAnswer (.decline toggle .notReady) s
  else if digest ≠ s.stagedDigest then handFlipAnswer (.decline toggle .digest) s
  else if s.pst.status = .agreed then handFlipAnswer (.decline toggle .pending) s
  else
    match offerEpoch s epoch with
    | none => handFlipAnswer (.decline toggle .epoch) s
    | some e => agreeOffer toggle digest epoch e s

/-- The last agreement that an offer repeats, when it does (R113 step 1). -/
def repeatedAgreement (s : State) (toggle : Bool) (digest : Digest) : Option Agreement :=
  s.se.flip.lastAgreement.filter fun a => a.toggle == toggle && a.digest == digest

/-- A good FLIP-OFFER at the coordinator (R113). -/
def takeOffer (toggle : Bool) (digest : Digest) (epoch : Sfn) (station : Byte) (s : State) : State :=
  match repeatedAgreement s toggle digest with
  | some a => handFlipAnswer (.agree toggle a.digest a.epoch) s
  | none =>
    if s.pst.status = .offered then
      if station.toNat < s.params.stationId.toNat then
        checkOffer toggle digest epoch (endOffer .withdrawn .verified s)
      else handFlipAnswer (.decline toggle .clash) s
    else checkOffer toggle digest epoch s

/-- The epoch of the BANK entry that a FLIP-AGREE places (R114). -/
def agreedEpoch (s : State) (epoch : Sfn) : Option Sfn :=
  if liesInTime s.sfn epoch then some epoch
  else if liesLate s.sfn epoch then some (sfnPlus s.sfn Config.lateLead)
  else none

/-- A good FLIP-AGREE at the coordinator (R114). -/
def takeAgree (toggle : Bool) (digest : Digest) (epoch : Sfn) (s : State) : State :=
  match s.se.flip.offer with
  | none => s
  | some o =>
    if s.pst.status = .offered ∧ o.toggle = toggle ∧ o.digest = digest ∧ o.epoch = epoch then
      match agreedEpoch s o.epoch with
      | some e => endOffer .agreed .agreed (insertBank e s)
      | none => s
    else s

/-- A good FLIP-DECLINE at the coordinator (R115). -/
def takeDecline (toggle : Bool) (reason : DeclineReason) (s : State) : State :=
  match s.se.flip.offer with
  | none => s
  | some o =>
    if s.pst.status = .offered ∧ o.toggle = toggle then
      raise .offerDeclined (endOffer (.declined reason) .verified s)
    else s

/-- The beacon divergence count after a BEACON (R109). -/
def countDigest (digest : Digest) (s : State) : State :=
  let n := s.se.flip.divergence
  if digest = s.liveDigest then setCoordinator { s.se.flip with divergence := 0 } s
  else if n < 3 then
    let t := setCoordinator { s.se.flip with divergence := n + 1 } s
    if n + 1 = 3 then raise .bankDiverged t else t
  else s

/-- The expiry of the offer's timer (R112). -/
def offerExpiry (o : OutstandingOffer) (s : State) : State :=
  if 0 < o.retries then
    let again := { o with retries := o.retries - 1, timer := s.params.responseTime }
    handOffer again (setCoordinator { s.se.flip with offer := some again } s)
  else raise .flipFailed (endOffer .unanswered .verified s)

/-- The offer timer's share of a start event (R112). -/
def tickOffer (s : State) : State :=
  match s.se.flip.offer with
  | none => s
  | some o =>
    if o.timer ≤ 1 then offerExpiry o s
    else setCoordinator { s.se.flip with offer := some { o with timer := o.timer - 1 } } s

/-- PROPOSE FLIP once its checks have passed (R111). -/
def makeOffer (s : State) : State :=
  let o : OutstandingOffer :=
    { toggle := !s.se.flip.offerToggle, epoch := sfnPlus s.sfn s.params.flipLead, digest := s.stagedDigest
      retries := s.params.retryCount, timer := s.params.responseTime }
  handOffer o (setStatus .offered
    (setCoordinator { s.se.flip with offer := some o, offerToggle := o.toggle } s))

/-- FLIP LOCAL once its checks have passed: an own offer is withdrawn, and the BANK entry stands two superframes
ahead (R116). -/
def flipLocalNow (s : State) : State :=
  let t := if s.pst.status = .offered then endOffer .withdrawn .verified s else s
  endOffer .agreed .agreed (insertBank (sfnPlus t.sfn Config.lateLead) t)

end Sys2Proof.Machine
end

