-- ==== Sys2Proof/Machine/Protocol.lean ====
section
/-! DEFINITION. The two ends of the step protocol: an ASK at an Out context (R81, R82), a GRANT or REFUSE at an In
context (R99 to R105), and a BEACON at the contexts (R89). -/

namespace Sys2Proof.Machine

/-! ## ASKs at the Out context -/

/-- An answer is stored as the last answer and handed to the lane's reply slot (R82). -/
def giveAnswer (l : Lane) (a : Answer) (s : State) : State :=
  setTx { s.ohl.tx with reply := s.ohl.tx.reply.set l (some a) }
    (setOut l { s.outCtx l with lastAnswer := some a } s)

/-- The last answer, when the ASK repeats the question it answered (R81 step 3). -/
def repeatedAnswer (s : State) (l : Lane) (toggle : Bool) (target : Profile) : Option Answer :=
  (s.outCtx l).lastAnswer.filter fun a => a.toggle == toggle && a.target == target

/-- Steps 6 to 8 of R81. -/
def grantAsk (l : Lane) (toggle urgent : Bool) (target : Profile) (s : State) : State :=
  if (s.entryOf .outbound l).any Entry.committed then giveAnswer l ⟨toggle, target, .refuse .busy⟩ s
  else if target = (s.outCtx l).pOut ∧ s.entryOf .outbound l = none then
    giveAnswer l ⟨toggle, target, .grant s.sfn⟩ s
  else
    let e := sfnPlus s.sfn (if urgent then s.params.shortLead else s.params.longLead)
    if s.bankEpoch.any fun f => notEarlier s.sfn e f then giveAnswer l ⟨toggle, target, .refuse .flip⟩ s
    else giveAnswer l ⟨toggle, target, .grant e⟩ (insertDirection .outbound l target e .grantOut s)

/-- A good ASK at the Out context of its lane (R81). -/
def takeAsk (l : Lane) (toggle urgent : Bool) (target : Profile) (digest : Digest) (s : State) : State :=
  if s.enabled l = false then giveAnswer l ⟨toggle, target, .refuse .laneOff⟩ s
  else if digest ≠ s.liveDigest then giveAnswer l ⟨toggle, target, .refuse .bank⟩ s
  else
    match repeatedAnswer s l toggle target with
    | some a => giveAnswer l a s
    | none =>
      if (s.outCtx l).mode = .pinned then giveAnswer l ⟨toggle, target, .refuse .pinned⟩ s
      else if allowed s .outbound l target then grantAsk l toggle urgent target s
      else giveAnswer l ⟨toggle, target, .refuse .masked⟩ s

/-! ## Answers at the In context -/

/-- The outstanding ASK, when an answer matches it (R99). -/
def matchingAsk (s : State) (l : Lane) (toggle : Bool) (target : Profile) : Option OutstandingAsk :=
  if (s.inCtx l).state = .asking then
    (s.inCtx l).ask.filter fun a => !a.busy && a.toggle == toggle && a.target == target
  else none

/-- The awaited switch replaces the outstanding ASK (R100, R101). -/
def awaitSwitch (l : Lane) (x : InState) (target : Profile) (tagTimer : Option Nat) (s : State) : State :=
  setIn l { s.inCtx l with state := x, ask := none, awaited := some ⟨target, tagTimer⟩ } s

/-- A GRANT whose epoch could be placed is fenced, held off as stale, or taken (R101). -/
def anchorGrant (l : Lane) (target : Profile) (e : Sfn) (s : State) : State :=
  if s.bankEpoch.any fun f => notEarlier s.sfn e f then enterSteady l s
  else if (s.entryOf .inbound l).any Entry.committed then bump (.se l .staleGrants) s
  else awaitSwitch l .awaiting target none (insertDirection .inbound l target e .grantIn s)

/-- A matching GRANT (R100). A late one counts as a late grant here, before R101 finds it fenced, held off by a
committed entry (then it counts as a stale grant as well) or takes it (log 24). -/
def placeGrant (l : Lane) (target : Profile) (epoch : Sfn) (s : State) : State :=
  match localEpoch s epoch with
  | none => awaitSwitch l .awaitingTag target (some (2 * s.params.responseTime)) s
  | some e =>
    if liesInTime s.sfn e then anchorGrant l target e s
    else if liesLate s.sfn e then
      anchorGrant l target (sfnPlus s.sfn Config.lateLead) (bump (.se l .lateGrants) s)
    else bump (.se l .wildGrants) s

/-- A good GRANT at the In context of its lane (R99). -/
def takeGrant (l : Lane) (toggle : Bool) (target : Profile) (epoch : Sfn) (s : State) : State :=
  match matchingAsk s l toggle target with
  | some _ => placeGrant l target epoch s
  | none => bump (.se l .staleGrants) s

/-- HELD with a reason, the outstanding ASK removed (R104). -/
def holdContext (l : Lane) (r : HoldReason) (s : State) : State :=
  setIn l { s.inCtx l with state := .held, ask := none, holdReason := some r } s

/-- A matching REFUSE acts according to its reason (R104, R105, log 12). -/
def refused (l : Lane) (a : OutstandingAsk) (reason : RefuseReason) (s : State) : State :=
  let c := s.inCtx l
  match reason with
  | .pinned => holdContext l .pinned s
  | .bank => holdContext l .bank s
  | .flip => enterSteady l s
  | .laneOff => enterSteady l (setIn l { c with farLaneOff := true } s)
  | .busy => setIn l { c with ask := some { a with timer := Config.busyWait, busy := true } } s
  | .masked =>
    let x := if a.target = 0 then c.refused else withProfile c.refused a.target
    reDecide l a.urgency (maintainInPin l (setIn l { c with state := .steady, ask := none, refused := x } s))

/-- A good REFUSE at the In context of its lane (R99). -/
def takeRefuse (l : Lane) (toggle : Bool) (target : Profile) (reason : RefuseReason) (s : State) : State :=
  match matchingAsk s l toggle target with
  | some a => refused l a reason s
  | none => s

/-! ## BEACONs at the In context (R89) -/

/-- HELD ends with a re-decision (R89). -/
def leaveHeld (l : Lane) (s : State) : State :=
  reDecide l .normal (setIn l { s.inCtx l with state := .steady, holdReason := none } s)

/-- Steps 1 and 2 of R89. -/
def beaconHeld (l : Lane) (digest : Digest) (x : LaneStatus) (s : State) : State :=
  if (s.inCtx l).state = .held then
    match (s.inCtx l).holdReason with
    | some .pinned => if x.outPinned then s else leaveHeld l s
    | some .bank => if digest = s.liveDigest then leaveHeld l s else s
    | none => s
  else s

/-- A BEACON's part for one In context (R89). -/
def beaconIn (l : Lane) (digest : Digest) (x : LaneStatus) (s : State) : State :=
  let t := beaconHeld l digest x (setIn l { s.inCtx l with farReport := some ⟨x.outProfile, x.outPinned⟩ } s)
  if (t.inCtx l).farLaneOff && x.enabled then takeDeferred l (setIn l { t.inCtx l with farLaneOff := false } t)
  else t

end Sys2Proof.Machine
end

