-- ==== Sys2Proof/Machine/Link.lean ====
section
/-! DEFINITION. The overhead link: good frames and their dispatch (R126, R136), the offset lock (R127), the
deframer (R121, R122, R125), the transmitter (R120, R131 to R133, R135) and the two timers (R130, R135). -/

namespace Sys2Proof.Machine

/-! ## The offset lock (R127) -/

/-- The third mismatch in a row drops the lock (R127); the record being built takes the loss (R183). -/
def dropLock (s : State) : State :=
  let t := bump (.ohl .lockLosses) (raise .lockLost (setLock .hunting s))
  setBuilding { t.prc.building with lockLost := true } t

/-- A frame's offset updates the lock (R127). -/
def updateLock (f : Sfn) (s : State) : State :=
  let k := s.ohl.lock
  match k.state with
  | .hunt => setLock ⟨.confirm, some f, k.mismatch⟩ s
  | .confirm =>
    if k.offset = some f then setLock ⟨.locked, k.offset, 0⟩ s else setLock ⟨.confirm, some f, k.mismatch⟩ s
  | .locked =>
    if k.offset = some f then setLock { k with mismatch := 0 } s
    else if k.mismatch + 1 < 3 then setLock { k with mismatch := k.mismatch + 1 } s
    else dropLock s

/-! ## Good frames (R126) -/

/-- Steps 1 to 3 of R126: the count, the silence timer with the recovery, and the offset lock. -/
def hearFrame (times : FrameTimes) (s : State) : State :=
  updateLock (times.stamp - times.arrival) (peerHeard (setSilence 0 (bump (.ohl .good) s)))

/-- The far status of a lane is stored and handed to the PRC (R136). -/
def storeFar (l : Lane) (x : LaneStatus) (s : State) : State :=
  updateSecond l (·.withFarMargin x.inMargin)
    { s with ohl := { s.ohl with far := s.ohl.far.set l (some ⟨x.inMargin, x.enabled⟩) } }

/-- LANE-MISMATCH is raised when a far lane enabled flag differs from this end's (R136). -/
def compareLanes (x y : LaneStatus) (s : State) : State :=
  if x.enabled ≠ s.enabled .zero ∨ y.enabled ≠ s.enabled .one then raise .laneMismatch s else s

/-- A good BEACON at the OHL, the In contexts and the flip coordinator (R136, R89, R109). -/
def takeBeacon (digest : Digest) (x y : LaneStatus) (s : State) : State :=
  countDigest digest (beaconIn .one digest y (beaconIn .zero digest x
    (compareLanes x y (storeFar .one y (storeFar .zero x s)))))

/-- Dispatch of a good frame (R126 step 4). -/
def dispatch (f : Frame) (s : State) : State :=
  match f with
  | .ask l t u p d => takeAsk l t u p d s
  | .grant l t p e => takeGrant l t p e s
  | .refuse l t p r => takeRefuse l t p r s
  | .beacon d x y => takeBeacon d x y s
  | .flipOffer t d e st => takeOffer t d e st s
  | .flipAgree t d e => takeAgree t d e s
  | .flipDecline t r => takeDecline t r s

/-- A good frame is taken whole (R126). -/
def goodFrame (times : FrameTimes) (f : Frame) (s : State) : State := dispatch f (hearFrame times s)

/-! ## The deframer (R121, R122, R125) -/

/-- The deframer in COLLECT with an empty collection. -/
def Deframer.collecting : Deframer :=
  { state := .collect, collected := [], run := 0, firstArrival := none, runArrival := none }

/-- A candidate, its closing guard removed, is checked; a good frame is taken, and any other is counted (R125). -/
def checkCandidate (bits : List Bool) (arrival : Sfn) (s : State) : State :=
  if bits.length < Config.runtBits then bump (.ohl .runts) s
  else if bits.length % 8 ≠ 0 then bump (.ohl .misaligned) s
  else if bits.foldl checkBit 0xFFFF#16 ≠ 0 then bump (.ohl .checkErrors) s
  else
    match readFrame (bitsBytes bits) with
    | .unknown => bump (.ohl .unknown) s
    | .malformed => bump (.ohl .malformed) s
    | .good stamp f => goodFrame ⟨stamp, arrival⟩ f s

/-- Entry into SEARCH from COLLECT, with the count of the reason when the collection holds a bit (R121, R122). -/
def abandon (why : OhlCounter) (s : State) : State :=
  let t := setDeframer .searching s
  if s.ohl.deframer.state = .collect ∧ s.ohl.deframer.collected ≠ [] then bump (.ohl why) t else t

/-- A flag closes the collection; an empty one is idle fill (R121). -/
def takeFlag (arrival : Sfn) (s : State) : State :=
  let d := s.ohl.deframer
  let t := setDeframer .collecting s
  if d.state = .collect ∧ d.collected ≠ [] then
    checkCandidate d.collected.dropLast (d.firstArrival.getD arrival) t
  else t

/-- The data bits that the zero ending a run resolves: the ones of the run, and the zero itself unless it is a
stuffed one (R121). -/
def resolvedBits (run : Nat) : List Bool :=
  if run = 6 then List.replicate 6 true else List.replicate run true ++ [false]

/-- Data bits join the collection, or bring it to 98 bits (R121). -/
def collect (arrival : Sfn) (s : State) : State :=
  let d := s.ohl.deframer
  let more := d.collected ++ resolvedBits d.run
  let first := if d.run = 0 then arrival else d.runArrival.getD arrival
  if more.length < Config.overlongBits then
    setDeframer { d with
      collected := more, run := 0, runArrival := none
      firstArrival := some (d.firstArrival.getD first) } s
  else bump (.ohl .overlong) (setDeframer .searching s)

/-- One bit in a segment taken at SFN `arrival` (R121). The run of an abort goes on, held at 8, until its zero, although
the abort in COLLECT enters SEARCH: the ones behind the eighth begin no run of their own (DEDUCED, log 26). -/
def takeBit (arrival : Sfn) (s : State) (bit : Bool) : State :=
  let d := s.ohl.deframer
  if bit then
    if d.run < 7 then
      setDeframer { d with
        run := d.run + 1
        runArrival := if d.run = 0 then some arrival else d.runArrival } s
    else setDeframer { (abandon .aborts s).ohl.deframer with run := 8 } (abandon .aborts s)
  else if d.run = 7 then takeFlag arrival s
  else
    match d.state with
    | .search => setDeframer .searching s
    | .collect => collect arrival s

/-- An incoming segment reaches the deframer (R121, R122). -/
def takeSegment (valid : Bool) (segment : BitVec 64) (s : State) : State :=
  if valid then (segmentBits segment).foldl (takeBit s.sfn) s else abandon .lost s

/-! ## The transmitter (R120, R131 to R135) -/

/-- A lane's part of a BEACON built now (R135). -/
def beaconLane (s : State) (l : Lane) : LaneStatus :=
  if s.enabled l then
    { outProfile := (s.outCtx l).pOut, outPinned := (s.outCtx l).mode == .pinned, inMargin := marginState s l
      enabled := true }
  else { outProfile := 0, outPinned := false, inMargin := .failing, enabled := false }

/-- The frame of an answer (R82, R123). -/
def answerFrame (l : Lane) (a : Answer) : Frame :=
  match a.kind with
  | .grant e => .grant l a.toggle a.target e
  | .refuse r => .refuse l a.toggle a.target r

/-- The frame of a flip answer. -/
def flipAnswerFrame : FlipAnswer → Frame
  | .agree t d e => .flipAgree t d e
  | .decline t r => .flipDecline t r

/-- The frame that a slot's message becomes when it is built now; none for an empty slot (R133). -/
def slotFrame (s : State) (t : Transmitter) : Source → Option Frame
  | .reply l => (t.reply.get l).map (answerFrame l)
  | .flipAnswer => t.flipAnswer.map flipAnswerFrame
  | .ask l => (t.ask.get l).map fun m => .ask l m.toggle (m.urgency == .urgent) m.target s.liveDigest
  | .flipOffer => t.flipOffer.map fun m => .flipOffer m.toggle m.digest m.epoch m.station
  | .beacon => if t.beacon then some (.beacon s.liveDigest (beaconLane s .zero) (beaconLane s .one)) else none

/-- Whether a lane's ASK slot holds an URGENT ask. -/
def holdsUrgent (t : Transmitter) (l : Lane) : Bool := (t.ask.get l).any fun m => m.urgency == .urgent

/-- The lanes of a pair in the order the arbiter takes them (R132). -/
def laneOrder (mode : ArbiterMode) (last : Lane) : List Lane :=
  match mode with
  | .fixed => [.zero, .one]
  | .rotating => [otherLane last, last]

/-- The slots in the order of their priorities (R132). -/
def pickOrder (mode : ArbiterMode) (t : Transmitter) : List Source :=
  let lanes := laneOrder mode t.lastLane
  lanes.map .reply ++ [.flipAnswer] ++ (lanes.filter (holdsUrgent t)).map .ask ++ [.flipOffer]
    ++ lanes.map .ask ++ [.beacon]

/-- The slot the arbiter takes, with its frame (R132). -/
def pickSlot (s : State) (t : Transmitter) : Option (Source × Frame) :=
  (pickOrder s.params.arbiter t).findSome? fun x => (slotFrame s t x).map fun f => (x, f)

/-- A slot emptied by a pick; a REPLY or ASK sets the last lane served (R131, R132). -/
def Transmitter.taking (t : Transmitter) : Source → Transmitter
  | .reply l => { t with reply := t.reply.set l none, lastLane := l }
  | .flipAnswer => { t with flipAnswer := none }
  | .ask l => { t with ask := t.ask.set l none, lastLane := l }
  | .flipOffer => { t with flipOffer := none }
  | .beacon => { t with beacon := false }

/-- The stamp of a frame picked after `p` bits of the draw for segment `n` (R133). -/
def frameStamp (n : Sfn) (p : Nat) : Sfn := if p + 8 < 64 then n else n + 1

/-- A unit begins: the picked frame, or an idle flag (R120, R132, R133). -/
def beginUnit (s : State) (n : Sfn) (p : Nat) (t : Transmitter) : Transmitter :=
  match pickSlot s t with
  | some (x, f) => { t.taking x with bits := frameBits (f.bytes (frameStamp n p)), frame := some x }
  | none => { t with bits := flagBits, frame := none }

/-- One bit leaves the transmitter; the last bit of a frame ends its transmission (R133). -/
def Transmitter.next (t : Transmitter) : Bool × Transmitter :=
  match t.bits with
  | [] => (false, t)
  | [b] => (b, { t with bits := [], frame := none })
  | b :: rest => (b, { t with bits := rest })

/-- The `k` bits of a draw that remain. -/
def drawBits (s : State) (n : Sfn) : Nat → Transmitter → List Bool × Transmitter
  | 0, t => ([], t)
  | k + 1, t =>
    let u := if t.bits.isEmpty then beginUnit s n (63 - k) t else t
    let r := drawBits s n k u.next.2
    (u.next.1 :: r.1, r.2)

/-- The draw of the segment for superframe `n`: its 64 bits, and the transmitter after it (R13, R120). -/
def drawSegment (s : State) (n : Sfn) : BitVec 64 × Transmitter :=
  let r := drawBits s n 64 s.ohl.tx
  (segmentOf r.1, r.2)

/-- Every slot empty (R137). -/
def Transmitter.slotsEmptied (t : Transmitter) : Transmitter :=
  { t with reply := ⟨none, none⟩, flipAnswer := none, ask := ⟨none, none⟩, flipOffer := none, beacon := false }

/-- The transmit side of OVERHEAD RESTART and FULL CLEAR (R137, R138). -/
def restartTransmitter (s : State) : State :=
  let t := s.ohl.tx
  setTx { t.slotsEmptied with bits := if t.frame.isSome then abortBits else t.bits, frame := none } s

/-- The REPLY and ASK slots of a lane are emptied (R138). -/
def emptyLaneSlots (l : Lane) (s : State) : State :=
  let t := s.ohl.tx
  setTx { t with reply := t.reply.set l none, ask := t.ask.set l none } s

/-! ## Timers (R130, R135) -/

/-- The silence timer's share of a start event (R130). -/
def tickSilence (s : State) : State :=
  if s.params.silenceLimit ≤ s.ohl.silence + 1 then silenceExpiry (setSilence 0 s)
  else setSilence (s.ohl.silence + 1) s

/-- The beacon timer's share of a start event (R135). -/
def tickBeacon (s : State) : State :=
  if s.params.beaconPeriod ≤ s.ohl.beacon + 1 then
    setTx { s.ohl.tx with beacon := true } (setBeaconTimer 0 s)
  else setBeaconTimer (s.ohl.beacon + 1) s

end Sys2Proof.Machine
end

