-- ==== Sys2Proof/Machine/LaneCommands.lean ====
section
/-! DEFINITION. Pins, block releases, the lane commands, OVERHEAD RESTART and FULL CLEAR (R86, R92, R93, R137,
R167, R187). -/

namespace Sys2Proof.Machine

/-! ## Pins (R86) -/

/-- The effect of a PIN on its context (R86). -/
def pinContext (d : Dir) (l : Lane) (p : Profile) (s : State) : State :=
  match d with
  | .inbound => pinIn l p s
  | .outbound => pinOut l p s

/-- The effect of an UNPIN on its context; without a pin nothing changes (R86). -/
def unpinContext (d : Dir) (l : Lane) (s : State) : State :=
  match d with
  | .inbound => setIn l { s.inCtx l with pin := none } s
  | .outbound => if (s.outCtx l).pin = none then s else unpinOut l s

/-- PIN (R86). -/
def execPin (lane direction profile : Byte) (s : State) : Host.Outcome State Fault Refusal :=
  match laneOf lane, dirOf direction, profileOf profile with
  | some l, some d, some p =>
    if !s.enabled l then .next (answer (.refused .laneOff) s)
    else if allowed s d l p then .next (answer .ok (pinContext d l p s))
    else .next (answer .badArg s)
  | _, _, _ => .next (answer .badArg s)

/-- UNPIN (R86). -/
def execUnpin (lane direction : Byte) (s : State) : Host.Outcome State Fault Refusal :=
  match laneOf lane, dirOf direction with
  | some l, some d =>
    if s.enabled l then .next (answer .ok (unpinContext d l s)) else .next (answer (.refused .laneOff) s)
  | _, _ => .next (answer .badArg s)

/-! ## Release of a blocked class (R167) -/

/-- RELEASE_CLASS (R167). -/
def execReleaseClass (cls : Byte) (s : State) : Host.Outcome State Fault Refusal :=
  match classOf cls with
  | none => .next (answer .badArg s)
  | some c =>
    if !s.cal.blocked.getLsbD c then .next (answer .ok s)
    else if s.cal.live.outbound.share c = 0 then .next (answer (.refused .noShare) s)
    else
      .next (answer .ok (handNotice (.classReleased c)
        { s with cal := { s.cal with blocked := s.cal.blocked &&& ~~~BitVec.twoPow 8 c } }))

/-! ## Lane commands (R92, R93) -/

/-- Whether an entry belongs to a lane. -/
def Entry.onLane (e : Entry) (l : Lane) : Bool :=
  match e.switch with
  | .context _ x _ => x == l
  | .bank _ => false

/-- Both contexts of a lane at a fresh start (R92). -/
def freshContexts (l : Lane) (s : State) : State :=
  let silent := s.se.peerSilent
  setOut l { OutContext.fresh with mode := if silent then .fallback else .adaptive }
    (setIn l { InContext.fresh with state := if silent then .silent else .steady } s)

/-- The lane enabled flag (R17). -/
def setEnabled (l : Lane) (on : Bool) (s : State) : State :=
  { s with mdp := { s.mdp with enabled := s.mdp.enabled.set l on } }

/-- The fresh start of a lane: contexts, schedule with its withdrawals, grader, slots and live maps (R34, R92,
R138, R152, R161, R162). -/
def restartLane (l : Lane) (s : State) : State :=
  let gone := s.sws.filter (·.onLane l)
  let t := setSchedule (s.sws.filter fun e => !e.onLane l) (freshContexts l s)
  let t := emptyLaneSlots l (restartGrader l (withdrawAll gone t))
  recomputeBoth (sfnPlus t.sfn 2) t

/-- LANE_ENABLE (R17, R93). -/
def execLaneEnable (lane : Byte) (s : State) : Host.Outcome State Fault Refusal :=
  match laneOf lane with
  | some l => if s.enabled l then .next (answer .ok s) else .next (answer .ok (restartLane l (setEnabled l true s)))
  | none => .next (answer .badArg s)

/-- LANE_DISABLE (R17, R93). -/
def execLaneDisable (lane : Byte) (s : State) : Host.Outcome State Fault Refusal :=
  match laneOf lane with
  | some l => .next (answer .ok (restartLane l (setEnabled l false s)))
  | none => .next (answer .badArg s)

/-- LANE_RESTART (R92, log 16). -/
def execLaneRestart (lane : Byte) (s : State) : Host.Outcome State Fault Refusal :=
  match laneOf lane with
  | some l => .next (answer .ok (restartLane l s))
  | none => .next (answer .badArg s)

/-! ## OVERHEAD RESTART and FULL CLEAR -/

/-- An outstanding offer is cancelled (R110, R137). -/
def cancelOffer (s : State) : State :=
  if s.se.flip.offer.isSome then raise .flipFailed (endOffer .cancelled .verified s) else s

/-- OVERHEAD_RESTART (R137). -/
def execOverheadRestart (s : State) : Host.Outcome State Fault Refusal :=
  .next (answer .ok (cancelOffer (setLock .hunting (abandon .lost (restartTransmitter s)))))

/-- The overhead link's part of FULL CLEAR (R138, R140). -/
def clearLink (s : State) : State :=
  let t := setLock .hunting (abandon .lost (restartTransmitter s))
  { t with ohl := { t.ohl with
      silence := 0, beacon := 0, far := ⟨none, none⟩, tx := { t.ohl.tx with lastLane := .one } } }

/-- The staged status after FULL CLEAR (R55). -/
def StagedStatus.cleared : StagedStatus → StagedStatus
  | .editing => .editing
  | .verified => .verified
  | .offered => .verified
  | .agreed => .verified

/-- The step engine's and the schedule's part of FULL CLEAR (R55, R94, R110, R153). -/
def clearEngine (s : State) : State :=
  setStatus s.pst.status.cleared (setSchedule [] { s with se := Se.reset })

/-- The allocator's and the traffic port's part of FULL CLEAR (R163, R175). -/
def clearTraffic (s : State) : State :=
  { s with
    cal := { live := ⟨liveMapOf s .inbound, liveMapOf s .outbound⟩, blocked := 0 }
    trp := { s.trp with queue := [], reply := none, resync := false } }

/-- FULL_CLEAR (R187). -/
def execFullClear (s : State) : Host.Outcome State Fault Refusal :=
  .next (answer .ok (clearTraffic (clearEngine (clearLink (restartGrader .one (restartGrader .zero s))))))

end Sys2Proof.Machine
end

