-- ==== Sys2Proof/Machine/StartEvent.lean ====
section
/-! DEFINITION. Power-on reset, the superframe start event, and the expiries and completions that belong to one
(R1 to R13, R42, R98, R102, R105, R112, R130, R135, R147 to R150, R183, R186). -/

namespace Sys2Proof.Machine

/-! ## Shares of the arriving start event (log 3) -/

/-- The local SFN, rewritten. -/
def setSfn (n : Sfn) (s : State) : State := { s with mdp := { s.mdp with sfn := n } }

/-- Whether a timer has already taken the arriving start event. -/
def hasShare (s : State) (x : Share) : Bool := s.shares.contains x

/-- A timer has taken the arriving start event. -/
def addShare (x : Share) (s : State) : State := if hasShare s x then s else { s with shares := x :: s.shares }

/-- The response timer of an ASK that lane `l` has handed over since `before`, in a part of a start event taken ahead
of the ask timers, does not count that event (R98: it runs from the hand-over; logs 2 and 3). -/
def startAskTimer (l : Lane) (before s : State) : State :=
  if (s.inCtx l).ask.isSome ∧ (s.inCtx l).ask ≠ (before.inCtx l).ask then addShare (.response l) s else s

/-- A part of a start event, in which a lane hands over one ASK at most, ahead of the ask timers (R98). -/
def aheadOfAsks (f : State → State) (s : State) : State := startAskTimer .one s (startAskTimer .zero s (f s))

/-- A step taken at the SFN that the arriving start event makes current, ahead of the event itself. -/
def atArriving (f : State → State) (s : State) : State :=
  aheadOfAsks (fun t => setSfn t.sfn (f (setSfn (t.sfn + 1) t))) s

/-- A timer takes the start event, unless it already has. -/
def unlessShared (x : Share) (f : State → State) (s : State) : State := if hasShare s x then s else f s

/-- A timer that runs out at the arriving start event takes it ahead of the event (log 3). -/
def takeShare (x : Share) (f : State → State) (s : State) : State := atArriving f (addShare x s)

/-! ## Reports (R2, R9, R10) -/

/-- The lane of a plan word. -/
def PlanWord.lane (w : PlanWord) (l : Lane) : LanePlan := w.lanes.get l

/-- A report is handed to the QG with the branch and the In profile of its superframe's plan word (R9). -/
def handReport (r : QualityReport) (w : PlanWord) (s : State) : State :=
  processReport r (w.lane r.lane).branch (w.lane r.lane).inProfile s

/-- The missing report of a lane, branch and superframe (R10). -/
def missingReport (l : Lane) (b : Branch) (m : Sfn) : QualityReport :=
  { lane := l, branch := b, sfn := m, locked := false, mse := 0, corrected := 0, uncorrected := 0, tag := none }

/-- A report is missing for superframe n - 3, whose plan word stands as `twoAgo` until the history moves on
(R10). -/
def isMissing (s : State) (l : Lane) (b : Branch) : Bool :=
  s.enabled l && (s.mdp.history.twoAgo.lane l).enabled && !((s.mdp.taken.get l).get b).twoAgo

/-- Synthesis for one lane and branch (R10). -/
def synthesise (l : Lane) (b : Branch) (s : State) : State :=
  if isMissing s l b then
    handReport (missingReport l b (s.sfn - 3)) s.mdp.history.twoAgo (bump (.mdp .missing) s)
  else s

/-- Synthesis at a start event, in the order of R10. -/
def synthesiseAll (s : State) : State :=
  synthesise .one .div (synthesise .one .main (synthesise .zero .div (synthesise .zero .main s)))

/-- The columns of an acceptance record move on by one superframe (R2 step 3). -/
def TakenMarks.aged (t : TakenMarks) : TakenMarks := ⟨t.oneAgo, t.current, false⟩

def agedBranches (t : PerBranch TakenMarks) : PerBranch TakenMarks := ⟨t.main.aged, t.div.aged⟩

/-! ## The plan word (R3 to R5) -/

/-- The bank that a BANK entry with epoch n + 1 makes live (R3). -/
def nextBank (s : State) : Option BankId :=
  match s.entry .bank with
  | some e => if e.epoch = s.sfn + 1 then e.bankTarget else none
  | none => none

/-- A profile field of the plan word for n + 1 (R4). -/
def planProfile (s : State) (d : Dir) (l : Lane) : Profile :=
  match nextBank s with
  | some x => remap s (s.pst.bank x) d l (s.liveProfile d l)
  | none =>
    match s.entryOf d l with
    | some e => if e.epoch = s.sfn + 1 then e.profile else s.liveProfile d l
    | none => s.liveProfile d l

/-- A lane of the plan word for n + 1, in the word's bank (R3, R5). -/
def planLane (s : State) (b : Bank) (l : Lane) : LanePlan :=
  let out := if s.enabled l then planProfile s .outbound l else 0
  let inn := if s.enabled l then planProfile s .inbound l else 0
  { enabled := s.enabled l
    outProfile := out, outConstellation := (b.profile out).constellation, outRate := (b.profile out).rate
    inProfile := inn, inConstellation := (b.profile inn).constellation, inRate := (b.profile inn).rate
    branch := if s.enabled l then (s.grader l).selected else .main }

/-- The plan word for superframe n + 1 (R3). -/
def planWord (s : State) : PlanWord :=
  let x := (nextBank s).getD s.pst.live
  { sfn := s.sfn + 1, bank := x, flipMarker := (nextBank s).isSome
    lanes := ⟨planLane s (s.pst.bank x) .zero, planLane s (s.pst.bank x) .one⟩ }

/-! ## The modem port's work (R2) -/

/-- Steps 3 and 4 of R2, with the commitment of R147. -/
def emitPlan (s : State) : State :=
  let w := planWord s
  let h := s.mdp.history
  commitEntries { s with
    mdp := { s.mdp with
      history := ⟨h.oneAgo, h.current, h.next, w⟩
      taken := ⟨agedBranches s.mdp.taken.lane0, agedBranches s.mdp.taken.lane1⟩ }
    modemOut := [.planWord w] }

/-- Step 5 of R2 (R13). -/
def emitSegment (s : State) : State :=
  let r := drawSegment s (s.sfn + 1)
  setTx r.2 { s with modemOut := s.modemOut ++ [.overheadOut (s.sfn + 1) r.1] }

/-- The timers of the asks and of the tags at a start event (R98, R102, R105). -/
def tickAsks (s : State) : State :=
  let s := unlessShared (.response .zero) (tickResponse .zero) s
  let s := unlessShared (.response .one) (tickResponse .one) s
  let s := unlessShared (.tag .zero) (tickTag .zero) s
  unlessShared (.tag .one) (tickTag .one) s

/-- The offer timer and the overhead link's timers at a start event (R112, R130, R135). -/
def tickLink (s : State) : State :=
  let s := unlessShared .offer tickOffer s
  let s := unlessShared .silence tickSilence s
  unlessShared .beacon tickBeacon s

/-- The seconds record's share of a start event, from the plan word of the superframe it makes current (R183). -/
def recordSecond (s : State) : State := tickSecond s.mdp.history.current (samplePlan s)

/-- The recorder's work at a start event (R183, R186). -/
def recorderWork (s : State) : State := unlessShared .second recordSecond (countPlan s)

/-- The start event up to the segment draw: the SFN, the completions, the missing reports and the plan word (R2, R148
to R150, log 2). -/
def untilDraw (s : State) : State :=
  emitPlan (aheadOfAsks synthesiseAll (aheadOfAsks completeBank (aheadOfAsks completeDirections
    (setSfn (s.sfn + 1) s))))

/-- The superframe start event: the work up to the segment draw, the draw, the timers and the recorder. The timers hand
their messages over behind the draw; a timer expiry sent as a command ahead of the event hands its message over ahead
of it (R134, log 2). -/
def startEvent (s : State) : State :=
  { recorderWork (tickLink (tickAsks (emitSegment (untilDraw s)))) with shares := [] }

/-! ## Commands of this family -/

/-- POWER_ON_RESET: every block takes its power-on values; the level of the hold input is the network
processor's (log 5), and the queue of commands is not the part's. -/
def execPowerOnReset (s : State) : Host.Outcome State Fault Refusal :=
  .next { State.reset with pending := s.pending, trp := { Trp.reset with hold := s.trp.hold } }

/-- SUPERFRAME_START (R1, R2). -/
def execSuperframeStart (s : State) : Host.Outcome State Fault Refusal := .next (startEvent s)

/-- The seconds record's share of the arriving start event, whose plan word still stands as `next`. -/
def recordSecondAhead (s : State) : State :=
  let h := s.mdp.history
  let t := recordSecond { s with mdp := { s.mdp with history := ⟨h.oneAgo, h.current, h.next, h.next⟩ } }
  { t with mdp := { t.mdp with history := h } }

/-- SECOND_LATCH: the arriving start event latches, and the recorder takes it first (R183, R184, log 3). -/
def execSecondLatch (s : State) : Host.Outcome State Fault Refusal :=
  if s.params.secondLength ≤ s.prc.second + 1 ∧ hasShare s .second = false then
    .next (takeShare .second recordSecondAhead s)
  else .next s

/-- SILENCE_TIMER_EXPIRY: the arriving start event expires the silence timer (R90, R130, log 3). -/
def execSilenceTimerExpiry (s : State) : Host.Outcome State Fault Refusal :=
  if s.params.silenceLimit ≤ s.ohl.silence + 1 ∧ hasShare s .silence = false then
    .next (takeShare .silence tickSilence s)
  else .next s

/-- BEACON_TIMER_EXPIRY: the arriving start event expires the beacon timer (R135, log 3). -/
def execBeaconTimerExpiry (s : State) : Host.Outcome State Fault Refusal :=
  if s.params.beaconPeriod ≤ s.ohl.beacon + 1 ∧ hasShare s .beacon = false then
    .next (takeShare .beacon tickBeacon s)
  else .next s

/-- The lane's outstanding ASK, when its timer runs out at the arriving start event. -/
def expiringAsk (s : State) (l : Lane) : Option OutstandingAsk :=
  if hasShare s (.response l) then none else (s.inCtx l).ask.filter fun a => decide (a.timer ≤ 1)

/-- RESPONSE_TIMER_EXPIRY (R98, log 3). -/
def execResponseTimerExpiry (l : Lane) (s : State) : Host.Outcome State Fault Refusal :=
  match expiringAsk s l with
  | some a => if a.busy then .next s else .next (takeShare (.response l) (responseExpiry l a) s)
  | none => .next s

/-- BUSY_WAIT_EXPIRY (R105, log 3). -/
def execBusyWaitExpiry (l : Lane) (s : State) : Host.Outcome State Fault Refusal :=
  match expiringAsk s l with
  | some a => if a.busy then .next (takeShare (.response l) (busyExpiry l a) s) else .next s
  | none => .next s

/-- The tag timer of a lane runs out at the arriving start event. -/
def tagExpires (s : State) (l : Lane) : Bool :=
  !hasShare s (.tag l) && (s.inCtx l).awaited.any fun w => w.tagTimer.any fun n => decide (n ≤ 1)

/-- TAG_TIMER_EXPIRY (R102, log 3). -/
def execTagTimerExpiry (l : Lane) (s : State) : Host.Outcome State Fault Refusal :=
  if tagExpires s l then .next (takeShare (.tag l) (tagExpiry l) s) else .next s

/-- The outstanding offer, when its timer runs out at the arriving start event. -/
def expiringOffer (s : State) : Option OutstandingOffer :=
  if hasShare s .offer then none else s.se.flip.offer.filter fun o => decide (o.timer ≤ 1)

/-- OFFER_TIMER_EXPIRY (R112, log 3). -/
def execOfferTimerExpiry (s : State) : Host.Outcome State Fault Refusal :=
  match expiringOffer s with
  | some o => .next (takeShare .offer (offerExpiry o) s)
  | none => .next s

/-- ENTRY_COMPLETION: the direction entries whose epoch is current complete, or else those of the arriving start
event (R148, R149, log 3). -/
def execEntryCompletion (s : State) : Host.Outcome State Fault Refusal :=
  if (dueEntries s).isEmpty then .next (atArriving completeDirections s) else .next (completeDirections s)

/-- BANK_ENTRY_COMPLETION: the BANK entry whose epoch is current completes, or else that of the arriving start
event (R150, log 3). -/
def execBankEntryCompletion (s : State) : Host.Outcome State Fault Refusal :=
  if (dueBank s).isSome then .next (completeBank s) else .next (atArriving completeBank s)

end Sys2Proof.Machine
end

