-- ==== Sys2Proof/Machine/ModemPort.lean ====
section
/-! DEFINITION. Quality reports and incoming overhead segments as they reach the modem port (R7, R9, R12, R14). -/

namespace Sys2Proof.Machine

/-- Which superframe an accepted report describes: the one just ended, or the one before it. -/
inductive ReportAge where
  | oneAgo | twoAgo
deriving DecidableEq, Repr

/-- The classes of R7. -/
inductive ReportClass where
  | discarded | future | stale | duplicate
  | accepted (age : ReportAge)
deriving DecidableEq, Repr

/-- The plan word of an accepted report's superframe. -/
def PlanHistory.at (h : PlanHistory) : ReportAge → PlanWord
  | .oneAgo => h.oneAgo
  | .twoAgo => h.twoAgo

/-- Whether a report has been taken for the superframe. -/
def TakenMarks.at (t : TakenMarks) : ReportAge → Bool
  | .oneAgo => t.oneAgo
  | .twoAgo => t.twoAgo

/-- The acceptance record with the superframe marked as taken. -/
def TakenMarks.marked (t : TakenMarks) : ReportAge → TakenMarks
  | .oneAgo => { t with oneAgo := true }
  | .twoAgo => { t with twoAgo := true }

/-- Steps 4 to 6 of R7, for a superframe whose age lets the report be accepted. -/
def classifyAged (s : State) (r : QualityReport) (age : ReportAge) : ReportClass :=
  if !((s.mdp.history.at age).lane r.lane).enabled then .discarded
  else if ((s.mdp.taken.get r.lane).get r.branch).at age then .duplicate
  else .accepted age

/-- The classification of a report (R7); a locked report without a tag is discarded (R14). -/
def classify (s : State) (r : QualityReport) : ReportClass :=
  if r.locked && r.tag.isNone then .discarded
  else if !s.enabled r.lane then .discarded
  else if r.sfn = s.sfn ∨ liesAhead s.sfn r.sfn then .future
  else if distance r.sfn s.sfn = 1 then classifyAged s r .oneAgo
  else if distance r.sfn s.sfn = 2 then classifyAged s r .twoAgo
  else .stale

/-- The acceptance record shows the report as taken (R7 step 6). -/
def markTaken (r : QualityReport) (age : ReportAge) (s : State) : State :=
  let t := s.mdp.taken.get r.lane
  { s with mdp := { s.mdp with
      taken := s.mdp.taken.set r.lane (t.set r.branch ((t.get r.branch).marked age)) } }

/-- The report as the QG receives it: an unlocked one has no tag (R7). -/
def atAcceptance (r : QualityReport) : QualityReport := { r with tag := if r.locked then r.tag else none }

/-- QUALITY_REPORT (R7). -/
def execQualityReport (r : QualityReport) (s : State) : Host.Outcome State Fault Refusal :=
  match classify s r with
  | .discarded => .next s
  | .future => .next (bump (.mdp .future) s)
  | .stale => .next (bump (.mdp .stale) s)
  | .duplicate => .next (bump (.mdp .duplicate) s)
  | .accepted age => .next (handReport (atAcceptance r) (s.mdp.history.at age) (markTaken r age s))

/-- OVERHEAD_IN: the segment carries the current SFN as its arrival SFN and goes to the deframer (R12). -/
def execOverheadIn (valid : Bool) (segment : BitVec 64) (s : State) : Host.Outcome State Fault Refusal :=
  .next (takeSegment valid segment s)

end Sys2Proof.Machine
end

