-- ==== Sys2Proof/Machine/ParamCommands.lean ====
section
/-! DEFINITION. WRITE PARAM and READ PARAM (R24, R27, R48, R49, R64, R82, R119, R139, R179, R180). -/

namespace Sys2Proof.Machine

/-! ## Values -/

/-- A number within a range. -/
def numberIn (low high : Nat) : ParamValue → Option Nat
  | .number n => if low ≤ n ∧ n ≤ high then some n else none
  | .thresholds _ => none
  | .flags _ => none

/-- A window length (R27). -/
def windowOf : ParamValue → Option Nat
  | .number n => if n = 8 ∨ n = 16 ∨ n = 32 ∨ n = 64 then some n else none
  | .thresholds _ => none
  | .flags _ => none

/-- Each value of a list is greater than the next. -/
def strictlyDecreasing : List Nat → Bool
  | [] => true
  | [_] => true
  | a :: b :: rest => decide (b < a) && strictlyDecreasing (b :: rest)

/-- A threshold set: in range and strictly decreasing (R24). -/
def thresholdsOf : ParamValue → Option (Vector Nat 15)
  | .number _ => none
  | .thresholds ts =>
    if (ts.toList.all fun t => decide (t ≤ Config.metricMax)) && strictlyDecreasing ts.toList then some ts else none
  | .flags _ => none

def branchModeOf : ParamValue → Option BranchMode
  | .number 0 => some .auto
  | .number 1 => some .fixedMain
  | .number 2 => some .fixedDiv
  | .number _ => none
  | .thresholds _ => none
  | .flags _ => none

def arbiterModeOf : ParamValue → Option ArbiterMode
  | .number 0 => some .fixed
  | .number 1 => some .rotating
  | .number _ => none
  | .thresholds _ => none
  | .flags _ => none

/-- The short lead that a write stores: clamped to 2 and to the lower of 64 and L (R82). -/
def shortLeadStored (longLead n : Nat) : Nat := max 2 (min n (min 64 longLead))

/-! ## Writes -/

/-- A lane's parameters after a write of an item, none when the value is out of range (R24, R27, R49). -/
def writtenLane (p : LaneParams) (v : ParamValue) : LaneItem → Option LaneParams
  | .window => (windowOf v).map fun n => { p with window := n }
  | .penalty => (numberIn 0 7 v).map fun n => { p with penalty := n }
  | .thresholds => (thresholdsOf v).map fun ts => { p with thresholds := ts }
  | .hysteresis => (numberIn 0 63 v).map fun n => { p with hysteresis := n }
  | .fastDropMargin => (numberIn 0 255 v).map fun n => { p with fastDropMargin := n }
  | .branchMargin => (numberIn 0 255 v).map fun n => { p with branchMargin := n }
  | .branchHold => (numberIn 0 15 v).map fun n => { p with branchHold := n }
  | .branchMode => (branchModeOf v).map fun m => { p with branchMode := m }

def setLaneParams (l : Lane) (p : LaneParams) (s : State) : State :=
  { s with mgp := { s.mgp with laneParams := s.mgp.laneParams.set l p } }

/-- Both windows of a lane restart (R27). -/
def restartWindows (l : Lane) (s : State) : State :=
  let b := (s.grader l).branches
  setGrader l { s.grader l with branches := ⟨b.main.emptied, b.div.emptied⟩ } s

/-- A mode of FIXED-x moves the current selection to x at the write (R48), of a disabled lane too, which is the model's
choice between R48 and R34 (log 25). -/
def selectFixed (l : Lane) (s : State) : State :=
  match (s.laneParams l).branchMode.fixed with
  | none => s
  | some x => if (s.grader l).selected = x then s else switchBranch l x s

/-- What a write of a lane's item does besides storing the value (R27, R48). -/
def laneWriteEffect (l : Lane) (i : LaneItem) (s : State) : State :=
  match i with
  | .window => restartWindows l s
  | .branchMode => selectFixed l s
  | .penalty => s
  | .thresholds => s
  | .hysteresis => s
  | .fastDropMargin => s
  | .branchMargin => s
  | .branchHold => s

/-- The common parameters after a write of an item, none when the value is out of range or the item is not one of
them (R82, R119, R139, R180). -/
def writtenCommon (p : CommonParams) (v : ParamValue) : CommonItem → Option CommonParams
  | .longLead => (numberIn 8 255 v).map fun n => { p with longLead := n, shortLead := min p.shortLead n }
  | .shortLead =>
    match v with
    | .number n => some { p with shortLead := shortLeadStored p.longLead n }
    | .thresholds _ => none
    | .flags _ => none
  | .responseTime => (numberIn 4 255 v).map fun n => { p with responseTime := n }
  | .retryCount => (numberIn 0 7 v).map fun n => { p with retryCount := n }
  | .flipLead => (numberIn 256 4096 v).map fun n => { p with flipLead := n }
  | .stationId => (numberIn 0 255 v).map fun n => { p with stationId := BitVec.ofNat 8 n }
  | .silenceLimit => (numberIn 16 4095 v).map fun n => { p with silenceLimit := n }
  | .beaconPeriod => (numberIn 8 1024 v).map fun n => { p with beaconPeriod := n }
  | .arbiterMode => (arbiterModeOf v).map fun m => { p with arbiter := m }
  | .secondLength => (numberIn 250 4000 v).map fun n => { p with secondLength := n }
  | .flagEnables => none
  | .planStatus => none

def setParams (p : CommonParams) (s : State) : State := { s with mgp := { s.mgp with params := p } }

def setEnables (set : BitVec 12) (s : State) : State := { s with mgp := { s.mgp with enables := set } }

/-- The data a write returns with OK: the short lead as stored, and nothing for any other item (R82). -/
def writeData (p : CommonParams) : CommonItem → ResponseData
  | .shortLead => .number 1 p.shortLead
  | .longLead => .empty
  | .responseTime => .empty
  | .retryCount => .empty
  | .flipLead => .empty
  | .stationId => .empty
  | .silenceLimit => .empty
  | .beaconPeriod => .empty
  | .arbiterMode => .empty
  | .secondLength => .empty
  | .flagEnables => .empty
  | .planStatus => .empty

/-- A write of a lane's item. -/
def writeLaneItem (l : Lane) (i : LaneItem) (v : ParamValue) (s : State) : State :=
  match writtenLane (s.laneParams l) v i with
  | some p => answer .ok (laneWriteEffect l i (setLaneParams l p s))
  | none => answer .badArg s

/-- A write of a common item; the flag enables take any set, and the plan status cannot be written (R64, R179). -/
def writeCommonItem (i : CommonItem) (v : ParamValue) (s : State) : State :=
  match i, v with
  | .flagEnables, .flags x => answer .ok (setEnables (x.setWidth 12) s)
  | _, _ =>
    match writtenCommon s.params v i with
    | some p => answerData (writeData p i) (setParams p s)
    | none => answer .badArg s

/-- WRITE_PARAM (R180). -/
def execWriteParam (item lane : Byte) (v : ParamValue) (s : State) : Host.Outcome State Fault Refusal :=
  match itemOf item with
  | none => .next (answer .badArg s)
  | some (.common i) => .next (writeCommonItem i v s)
  | some (.lane i) =>
    match laneOf lane with
    | some l => .next (writeLaneItem l i v s)
    | none => .next (answer .badArg s)

/-! ## Reads -/

def branchModeCode : BranchMode → Nat
  | .auto => 0
  | .fixedMain => 1
  | .fixedDiv => 2

def arbiterModeCode : ArbiterMode → Nat
  | .fixed => 0
  | .rotating => 1

/-- The value of a lane's item (R180). -/
def readLaneItem (p : LaneParams) : LaneItem → ResponseData
  | .window => .number 1 p.window
  | .penalty => .number 1 p.penalty
  | .thresholds => .thresholds p.thresholds
  | .hysteresis => .number 1 p.hysteresis
  | .fastDropMargin => .number 1 p.fastDropMargin
  | .branchMargin => .number 1 p.branchMargin
  | .branchHold => .number 1 p.branchHold
  | .branchMode => .number 1 (branchModeCode p.branchMode)

/-- The value of a common item (R64, R180). -/
def readCommonItem (s : State) : CommonItem → ResponseData
  | .longLead => .number 1 s.params.longLead
  | .shortLead => .number 1 s.params.shortLead
  | .responseTime => .number 1 s.params.responseTime
  | .retryCount => .number 1 s.params.retryCount
  | .flipLead => .number 2 s.params.flipLead
  | .stationId => .number 1 s.params.stationId.toNat
  | .silenceLimit => .number 2 s.params.silenceLimit
  | .beaconPeriod => .number 2 s.params.beaconPeriod
  | .arbiterMode => .number 1 (arbiterModeCode s.params.arbiter)
  | .secondLength => .number 2 s.params.secondLength
  | .flagEnables => .flags s.mgp.enables
  | .planStatus => .planStatus s.pst.live s.pst.status s.liveDigest s.stagedDigest s.pst.masks

/-- READ_PARAM (R64, R180). -/
def execReadParam (item lane : Byte) (s : State) : Host.Outcome State Fault Refusal :=
  match itemOf item with
  | none => .next (answer .badArg s)
  | some (.common i) => .next (answerData (readCommonItem s i) s)
  | some (.lane i) =>
    match laneOf lane with
    | some l => .next (answerData (readLaneItem (s.laneParams l) i) s)
    | none => .next (answer .badArg s)

end Sys2Proof.Machine
end

