-- ==== Sys2Proof/Machine/PeerFrames.lean ====
section
/-! DEFINITION. The seven kinds of good frame from the peer, each taken whole (R126, log 4). -/

namespace Sys2Proof.Machine

/-- ASK (R81). -/
def execAsk (times : FrameTimes) (l : Lane) (toggle urgent : Bool) (target : Profile) (digest : Digest) (s : State) :
    Host.Outcome State Fault Refusal :=
  .next (goodFrame times (.ask l toggle urgent target digest) s)

/-- GRANT (R99). -/
def execGrant (times : FrameTimes) (l : Lane) (toggle : Bool) (target : Profile) (epoch : Sfn) (s : State) :
    Host.Outcome State Fault Refusal :=
  .next (goodFrame times (.grant l toggle target epoch) s)

/-- REFUSE (R99, R104). -/
def execRefuse (times : FrameTimes) (l : Lane) (toggle : Bool) (target : Profile) (reason : RefuseReason)
    (s : State) : Host.Outcome State Fault Refusal :=
  .next (goodFrame times (.refuse l toggle target reason) s)

/-- BEACON (R136). -/
def execBeacon (times : FrameTimes) (digest : Digest) (lane0 lane1 : LaneStatus) (s : State) :
    Host.Outcome State Fault Refusal :=
  .next (goodFrame times (.beacon digest lane0 lane1) s)

/-- FLIP_OFFER (R113). -/
def execFlipOffer (times : FrameTimes) (toggle : Bool) (digest : Digest) (epoch : Sfn) (station : Byte) (s : State) :
    Host.Outcome State Fault Refusal :=
  .next (goodFrame times (.flipOffer toggle digest epoch station) s)

/-- FLIP_AGREE (R114). -/
def execFlipAgree (times : FrameTimes) (toggle : Bool) (digest : Digest) (epoch : Sfn) (s : State) :
    Host.Outcome State Fault Refusal :=
  .next (goodFrame times (.flipAgree toggle digest epoch) s)

/-- FLIP_DECLINE (R115). -/
def execFlipDecline (times : FrameTimes) (toggle : Bool) (reason : DeclineReason) (s : State) :
    Host.Outcome State Fault Refusal :=
  .next (goodFrame times (.flipDecline toggle reason) s)

end Sys2Proof.Machine
end

