-- ==== Sys2Proof/Machine/PlanCommands.lean ====
section
/-! DEFINITION. The cursor, the staged bank, the flip commands and the lane masks (R57 to R61, R66, R67, R111,
R116). -/

namespace Sys2Proof.Machine

/-! ## The cursor (R57 to R59) -/

/-- The number of records in a table; the index that equals it is the end. -/
def CursorTable.size : CursorTable → Nat
  | .stagedLadder => 16
  | .stagedClasses => 8
  | .liveLadder => 16
  | .liveClasses => 8

def setCursorTo (c : Cursor) (s : State) : State := { s with mgp := { s.mgp with cursor := c } }

/-- The cursor one record on. -/
def advanceCursor (s : State) : State := setCursorTo { s.mgp.cursor with index := s.mgp.cursor.index + 1 } s

/-- SET_CURSOR (R57). -/
def execSetCursor (table index : Byte) (s : State) : Host.Outcome State Fault Refusal :=
  match tableOf table with
  | none => .next (answer .badArg s)
  | some t =>
    if index.toNat < t.size then .next (answer .ok (setCursorTo ⟨t, index.toNat⟩ s)) else .next (answer .badArg s)

/-- The record under the cursor, none at the end (R58). -/
def recordAt (s : State) (c : Cursor) : Option ResponseData :=
  match c.table with
  | .stagedLadder => s.stagedBank.ladder[c.index]?.map .profileRecord
  | .stagedClasses => s.stagedBank.classes[c.index]?.map .classRecord
  | .liveLadder => s.liveBank.ladder[c.index]?.map .profileRecord
  | .liveClasses => s.liveBank.classes[c.index]?.map .classRecord

/-- READ_NEXT (R58). -/
def execReadNext (s : State) : Host.Outcome State Fault Refusal :=
  match recordAt s s.mgp.cursor with
  | some d => .next (answerData d (advanceCursor s))
  | none => .next (answer .badArg s)

/-- The staged bank is held by an exchange in progress (R55). -/
def stagedHeld (s : State) : Bool := s.pst.status == .offered || s.pst.status == .agreed

/-- The staged bank's contents replaced, its digest with them, and the status EDITING (R59, R61). -/
def setStaged (b : Bank) (digest : Digest) (s : State) : State :=
  { s with pst := { s.pst.setBank s.pst.staged b digest with status := .editing } }

/-- What a record written at the cursor makes of the staged bank, none when a field lies outside its range or
the cursor is on no staged record (R59 steps 3 and 4). -/
def writtenBank (b : Bank) (c : Cursor) (r : Vector Byte 7) : Option Bank :=
  match c.table with
  | .stagedLadder => (profileRecordOf r).map fun x => { b with ladder := b.ladder.setIfInBounds c.index x }
  | .stagedClasses => (classRecordOf r).map fun x => { b with classes := b.classes.setIfInBounds c.index x }
  | .liveLadder => none
  | .liveClasses => none

/-- The cursor is on a record of a staged table (R59 step 1). -/
def onStagedRecord (c : Cursor) : Bool :=
  (c.table == .stagedLadder || c.table == .stagedClasses) && decide (c.index < c.table.size)

/-- WRITE_NEXT (R59). -/
def execWriteNext (r : Vector Byte 7) (s : State) : Host.Outcome State Fault Refusal :=
  if !onStagedRecord s.mgp.cursor then .next (answer .badArg s)
  else if stagedHeld s then .next (answer .busy s)
  else
    match writtenBank s.stagedBank s.mgp.cursor r with
    | none => .next (answer .badArg s)
    | some b => .next (answer .ok (advanceCursor (setStaged b (bankDigest b) s)))

/-! ## Commit checks (R60) -/

/-- The first valid profile that satisfies `f`. -/
def firstValid (b : Bank) (f : ProfileRecord → Bool) : Option Profile :=
  profilesUp.find? fun p => b.valid p && f (b.profile p)

/-- A valid profile stands lower in some grade or in its slots than the nearest valid profile below it. -/
def outOfOrder (b : Bank) (q : Profile) : Bool :=
  b.valid q &&
    match highestBelow b.valid q with
    | none => false
    | some p =>
      decide ((b.profile q).slots < (b.profile p).slots) || decide ((b.profile q).enter < (b.profile p).enter)
        || decide ((b.profile q).stay < (b.profile p).stay)

/-- The first commit check that fails, with its record; none when every check passes (R60). -/
def commitFailure (b : Bank) : Option RefusedReason :=
  if !b.valid 0 then some (.baseInvalid 0)
  else
    match firstValid b fun r => decide (10 ≤ r.constellation.val) with
    | some p => some (.constellation p)
    | none =>
      match firstValid b fun r => decide (r.enter < r.stay) with
      | some p => some (.stayAboveEnter p)
      | none =>
        match profilesUp.find? (outOfOrder b) with
        | some q => some (.ladderOrder q)
        | none => (classNumbers.find? fun c => decide ((b.cls c).ceiling < (b.cls c).guaranteed)).map fun c => .ceiling c

/-- COMMIT_STAGED (R60). -/
def execCommitStaged (s : State) : Host.Outcome State Fault Refusal :=
  if stagedHeld s then .next (answer .busy s)
  else
    match commitFailure s.stagedBank with
    | some r => .next (answer (.refused r) (setStatus .editing s))
    | none => .next (answerData (.word s.stagedDigest) (setStatus .verified s))

/-- COPY_LIVE_TO_STAGED (R61). -/
def execCopyLiveToStaged (s : State) : Host.Outcome State Fault Refusal :=
  if stagedHeld s then .next (answer .busy s)
  else .next (answer .ok (setStaged s.liveBank s.liveDigest s))

/-! ## Flip commands (R111, R116) -/

/-- What stands in the way of PROPOSE FLIP, in the order of R111. -/
def proposeBar (s : State) : Option Result :=
  if stagedHeld s then some .busy
  else if s.pst.status = .editing then some (.refused .notVerified)
  else if s.ohl.lock.state ≠ .locked then some (.refused .noLock)
  else if s.se.peerSilent then some (.refused .peerSilent)
  else none

/-- PROPOSE_FLIP (R111). -/
def execProposeFlip (s : State) : Host.Outcome State Fault Refusal :=
  match proposeBar s with
  | some r => .next (answer r s)
  | none => .next (answerData (.word (sfnPlus s.sfn s.params.flipLead)) (makeOffer s))

/-- FLIP_LOCAL (R116). -/
def execFlipLocal (s : State) : Host.Outcome State Fault Refusal :=
  match s.pst.status with
  | .agreed => .next (answer .busy s)
  | .editing => .next (answer (.refused .notVerified) s)
  | .verified => .next (answerData (.word (sfnPlus s.sfn Config.lateLead)) (flipLocalNow s))
  | .offered => .next (answerData (.word (sfnPlus s.sfn Config.lateLead)) (flipLocalNow s))

/-! ## Lane masks (R66, R67) -/

/-- The mask that a write forms; profile 0 is always in it (R66). -/
def writtenMask (old value : ProfileSet) : MaskMode → ProfileSet
  | .load => value ||| 1
  | .setBits => (old ||| value) ||| 1
  | .clearBits => (old &&& ~~~value) ||| 1

/-- Stores the mask of a lane and direction. -/
def setMask (l : Lane) (d : Dir) (m : ProfileSet) (s : State) : State :=
  { s with pst := { s.pst with masks := s.pst.masks.set l ((s.pst.masks.get l).set d m) } }

/-- A mask write: the mask is stored, and the step engine is handed the profiles it removed. For a disabled lane
it takes effect when the lane is enabled (R66, R67, R93). -/
def changeMask (l : Lane) (d : Dir) (m : ProfileSet) (s : State) : State :=
  let t := setMask l d m s
  if s.enabled l then maskStep d l (s.mask l d &&& ~~~m) t else t

/-- WRITE_MASK (R66). -/
def execWriteMask (lane direction mode : Byte) (value : ProfileSet) (s : State) :
    Host.Outcome State Fault Refusal :=
  match laneOf lane, dirOf direction, maskModeOf mode with
  | some l, some d, some k =>
    let m := writtenMask (s.mask l d) value k
    .next (answerData (.word m) (changeMask l d m s))
  | _, _, _ => .next (answer .badArg s)

end Sys2Proof.Machine
end

