-- ==== Sys2Proof/Machine/ReadCommands.lean ====
section
/-! DEFINITION. The reading commands, CLEAR HISTOGRAM and the abort of a transaction (R29, R96, R129, R176, R178,
R182, R185, R186). -/

namespace Sys2Proof.Machine

/-- TRANSACTION_ABORT: the transaction ends; a command not yet taken has no effect, and what is left of a
response is lost (R176, log 7). -/
def execTransactionAbort (s : State) : Host.Outcome State Fault Refusal := .next (setResponse none s)

/-- READ_STATUS: the set flags, the last outcome and the staged status; every flag returned is cleared (R178). -/
def execReadStatus (s : State) : Host.Outcome State Fault Refusal :=
  .next (answerData (.status s.mgp.flags s.se.flip.lastOutcome s.pst.status)
    { s with mgp := { s.mgp with flags := 0 } })

/-- What READ CONTEXT returns of a direction context (R96). -/
def contextReading (s : State) (d : Dir) (l : Lane) : ResponseData :=
  match d with
  | .inbound => .inContext { s.inCtx l with tagRun := none } (allowedSet s .inbound l) s.se.peerSilent
  | .outbound => .outContext (s.outCtx l) (allowedSet s .outbound l) (s.entryOf .outbound l) s.se.peerSilent

/-- READ_CONTEXT (R96). -/
def execReadContext (lane direction : Byte) (s : State) : Host.Outcome State Fault Refusal :=
  match laneOf lane, dirOf direction with
  | some l, some d => .next (answerData (contextReading s d l) s)
  | _, _ => .next (answer .badArg s)

/-- What READ GRADE returns of a lane (R29). -/
def gradeReading (s : State) (l : Lane) : GradeReading :=
  let g := s.grader l
  { grade := g.grade, worst := g.worst, margin := marginState s l, selectedLock := g.selectedLock
    counts := ⟨g.branches.main.count, g.branches.div.count⟩
    metrics := ⟨g.branches.main.lastMetric, g.branches.div.lastMetric⟩
    locks := ⟨g.branches.main.latestLock, g.branches.div.latestLock⟩
    selected := g.selected, mode := (s.laneParams l).branchMode, hold := g.hold }

/-- READ_GRADE: after the response the worst grade is set to the current grade (R29). -/
def execReadGrade (lane : Byte) (s : State) : Host.Outcome State Fault Refusal :=
  match laneOf lane with
  | some l =>
    .next (answerData (.grade (gradeReading s l)) (setGrader l { s.grader l with worst := (s.grader l).grade } s))
  | none => .next (answer .badArg s)

/-- What READ LOCK returns (R129). -/
def lockReading (s : State) : LockReading :=
  let t := s.ohl.tx
  { lock := s.ohl.lock, silence := s.ohl.silence, beacon := s.ohl.beacon, deframer := s.ohl.deframer.state
    replyHeld := ⟨t.reply.lane0.isSome, t.reply.lane1.isSome⟩
    answerHeld := t.flipAnswer.isSome
    askHeld := ⟨t.ask.lane0.map AskMessage.urgency, t.ask.lane1.map AskMessage.urgency⟩
    offerHeld := t.flipOffer.isSome
    beaconHeld := t.beacon
    frame := t.frame, arbiter := s.params.arbiter, lastLane := t.lastLane
    far := s.ohl.far, peerSilent := s.se.peerSilent }

/-- READ_LOCK (R129). -/
def execReadLock (s : State) : Host.Outcome State Fault Refusal := .next (answerData (.lock (lockReading s)) s)

/-- The first place of a counter group and the number of its counters (section 11.4). -/
def CounterGroup.span : CounterGroup → Nat × Nat
  | .mdp => (0, 4)
  | .ohl => (4, 10)
  | .se => (14, 22)

/-- Whether a place belongs to a counter group. -/
def CounterGroup.holds (g : CounterGroup) (i : Nat) : Bool := decide (g.span.1 ≤ i ∧ i < g.span.1 + g.span.2)

/-- The snapshot of a counter group (R182). -/
def groupValues (s : State) (g : CounterGroup) : List Nat := (s.prc.counters.toList.drop g.span.1).take g.span.2

/-- The counters of a group set to 0 (R182). -/
def clearGroup (g : CounterGroup) (s : State) : State :=
  { s with prc := { s.prc with
      counters := s.prc.counters.mapFinIdx fun i v _ => if g.holds i then 0 else v } }

/-- READ_COUNTERS (R182). -/
def execReadCounters (group : Byte) (clear : Bool) (s : State) : Host.Outcome State Fault Refusal :=
  match groupOf group with
  | some g => .next (answerData (.counters (groupValues s g)) (if clear then clearGroup g s else s))
  | none => .next (answer .badArg s)

/-- READ_RECORD (R185). -/
def execReadRecord (age : Byte) (s : State) : Host.Outcome State Fault Refusal :=
  if age.toNat < Config.ringCapacity then
    match s.prc.ring[age.toNat]? with
    | some r => .next (answerData (.seconds r) s)
    | none => .next (answer (.refused .noRecord) s)
  else .next (answer .badArg s)

/-- READ_HISTOGRAM (R186). -/
def execReadHistogram (lane direction : Byte) (s : State) : Host.Outcome State Fault Refusal :=
  match laneOf lane, dirOf direction with
  | some l, some d => .next (answerData (.bins ((s.prc.histogram.get l).get d)) s)
  | _, _ => .next (answer .badArg s)

/-- CLEAR_HISTOGRAM (R186). -/
def execClearHistogram (s : State) : Host.Outcome State Fault Refusal :=
  .next (answer .ok (setHistogram emptyHistogram s))

end Sys2Proof.Machine
end

