-- ==== Sys2Proof/Machine/TrafficPort.lean ====
section
/-! DEFINITION. What the network processor sends, and the end of a record on its link (R169, R172, R173). -/

namespace Sys2Proof.Machine

/-- MAP_QUERY: a query for IN or OUT takes the reply slot; any other direction byte is discarded (R169, R173). -/
def execMapQuery (direction : Byte) (s : State) : Host.Outcome State Fault Refusal :=
  match dirOf direction with
  | some d => .next (tryBegin (setTrp { s.trp with reply := some d } s))
  | none => .next s

/-- HOLD_INPUT: the level of the hold input; when it becomes inactive the port looks for a record to begin
(R172). -/
def execHoldInput (active : Bool) (s : State) : Host.Outcome State Fault Refusal :=
  let t := setTrp { s.trp with hold := active } s
  if s.trp.hold && !active then .next (tryBegin t) else .next t

/-- RECORD_COMPLETION: the last byte of the record in transmission has left, and the link is free (R169, R172). -/
def execRecordCompletion (s : State) : Host.Outcome State Fault Refusal :=
  .next (tryBegin (setTrp { s.trp with sending := none } s))

end Sys2Proof.Machine
end

