-- ==== Sys2Proof/Machine/Dispatch.lean ====
section
/-! DEFINITION. The dispatch of a command to its meaning: one arm per row of the table. -/

namespace Sys2Proof.Machine

def exec (i : Instr) (s : State) : Host.Outcome State Fault Refusal :=
  match i with
  | .powerOnReset => Sys2Proof.Machine.execPowerOnReset s
  | .superframeStart => Sys2Proof.Machine.execSuperframeStart s
  | .secondLatch => Sys2Proof.Machine.execSecondLatch s
  | .silenceTimerExpiry => Sys2Proof.Machine.execSilenceTimerExpiry s
  | .beaconTimerExpiry => Sys2Proof.Machine.execBeaconTimerExpiry s
  | .responseTimerExpiry lane => Sys2Proof.Machine.execResponseTimerExpiry lane s
  | .busyWaitExpiry lane => Sys2Proof.Machine.execBusyWaitExpiry lane s
  | .tagTimerExpiry lane => Sys2Proof.Machine.execTagTimerExpiry lane s
  | .offerTimerExpiry => Sys2Proof.Machine.execOfferTimerExpiry s
  | .entryCompletion => Sys2Proof.Machine.execEntryCompletion s
  | .bankEntryCompletion => Sys2Proof.Machine.execBankEntryCompletion s
  | .qualityReport report => Sys2Proof.Machine.execQualityReport report s
  | .overheadIn valid segment => Sys2Proof.Machine.execOverheadIn valid segment s
  | .ask times lane toggle urgent target digest => Sys2Proof.Machine.execAsk times lane toggle urgent target digest s
  | .grant times lane toggle target epoch => Sys2Proof.Machine.execGrant times lane toggle target epoch s
  | .refuse times lane toggle target reason => Sys2Proof.Machine.execRefuse times lane toggle target reason s
  | .beacon times digest lane0 lane1 => Sys2Proof.Machine.execBeacon times digest lane0 lane1 s
  | .flipOffer times toggle digest epoch station => Sys2Proof.Machine.execFlipOffer times toggle digest epoch station s
  | .flipAgree times toggle digest epoch => Sys2Proof.Machine.execFlipAgree times toggle digest epoch s
  | .flipDecline times toggle reason => Sys2Proof.Machine.execFlipDecline times toggle reason s
  | .mapQuery direction => Sys2Proof.Machine.execMapQuery direction s
  | .holdInput active => Sys2Proof.Machine.execHoldInput active s
  | .recordCompletion => Sys2Proof.Machine.execRecordCompletion s
  | .transactionAbort => Sys2Proof.Machine.execTransactionAbort s
  | .setCursor table index => Sys2Proof.Machine.execSetCursor table index s
  | .readNext => Sys2Proof.Machine.execReadNext s
  | .writeNext record => Sys2Proof.Machine.execWriteNext record s
  | .commitStaged => Sys2Proof.Machine.execCommitStaged s
  | .copyLiveToStaged => Sys2Proof.Machine.execCopyLiveToStaged s
  | .proposeFlip => Sys2Proof.Machine.execProposeFlip s
  | .flipLocal => Sys2Proof.Machine.execFlipLocal s
  | .writeMask lane direction mode value => Sys2Proof.Machine.execWriteMask lane direction mode value s
  | .pin lane direction profile => Sys2Proof.Machine.execPin lane direction profile s
  | .unpin lane direction => Sys2Proof.Machine.execUnpin lane direction s
  | .releaseClass cls => Sys2Proof.Machine.execReleaseClass cls s
  | .laneEnable lane => Sys2Proof.Machine.execLaneEnable lane s
  | .laneDisable lane => Sys2Proof.Machine.execLaneDisable lane s
  | .laneRestart lane => Sys2Proof.Machine.execLaneRestart lane s
  | .overheadRestart => Sys2Proof.Machine.execOverheadRestart s
  | .fullClear => Sys2Proof.Machine.execFullClear s
  | .writeParam item lane value => Sys2Proof.Machine.execWriteParam item lane value s
  | .readParam item lane => Sys2Proof.Machine.execReadParam item lane s
  | .readStatus => Sys2Proof.Machine.execReadStatus s
  | .readContext lane direction => Sys2Proof.Machine.execReadContext lane direction s
  | .readGrade lane => Sys2Proof.Machine.execReadGrade lane s
  | .readLock => Sys2Proof.Machine.execReadLock s
  | .readCounters group clear => Sys2Proof.Machine.execReadCounters group clear s
  | .readRecord age => Sys2Proof.Machine.execReadRecord age s
  | .readHistogram lane direction => Sys2Proof.Machine.execReadHistogram lane direction s
  | .clearHistogram => Sys2Proof.Machine.execClearHistogram s

end Sys2Proof.Machine
end

