-- ==== Sys2Proof/Safety.lean ====
section
/-! DEFINITION. What every reachable state of the part satisfies, rule by rule: the invariants in whose terms the
claims about the step are stated. -/

namespace Sys2Proof.Machine

/-- The bounds of section 2.1 and R22 at one branch, under the lane's window length. -/
structure BranchGrader.Bounded (b : BranchGrader) (window : Nat) : Prop where
  count : b.count < window
  sum : b.sum ≤ Config.metricMax * b.count
  uncorrected : b.uncorrected ≤ Config.unlockedErrors * b.count
  metric : ∀ a, b.lastMetric = some a → a ≤ Config.metricMax

/-- The bounds of section 2.1 at one lane: window lengths are those of R27, and the worst grade is never above
the grade (R28). -/
structure LaneGrader.Bounded (g : LaneGrader) (window : Nat) : Prop where
  length : window = 8 ∨ window = 16 ∨ window = 32 ∨ window = 64
  main : g.branches.main.Bounded window
  div : g.branches.div.Bounded window
  grade : g.grade ≤ 15
  worst : g.worst ≤ g.grade

/-- Every lane's grader keeps its bounds (R22). -/
def State.GradesBounded (s : State) : Prop := ∀ l, (s.grader l).Bounded (s.laneParams l).window

/-- What is present in an In context in each of its states: the outstanding ASK, the awaited switch with its tag
timer, and the hold reason (R72); and the up-hold counter stands at 0 outside STEADY (R78). -/
structure InContext.Shaped (c : InContext) : Prop where
  ask : c.ask.isSome = true ↔ c.state = .asking
  awaited : c.awaited.isSome = true ↔ (c.state = .awaiting ∨ c.state = .awaitingTag)
  tagTimer : (c.awaited.bind AwaitedSwitch.tagTimer).isSome = true ↔ c.state = .awaitingTag
  held : c.holdReason.isSome = true ↔ c.state = .held
  upHold : c.state ≠ .steady → c.upHold = 0

/-- A pin is present exactly while an Out context is PINNED (R74). -/
def OutContext.Shaped (c : OutContext) : Prop := c.pin.isSome = true ↔ c.mode = .pinned

/-- Every context has the fields of its state, and no others (R72, R74). -/
def State.ContextsShaped (s : State) : Prop := ∀ l, (s.inCtx l).Shaped ∧ (s.outCtx l).Shaped

/-- Each owner has at most one entry, and an Out context is SCHEDULED exactly while it has one (R74, R143). -/
structure State.ScheduleShaped (s : State) : Prop where
  owners : (s.sws.map Entry.owner).Nodup
  scheduled : ∀ l, (s.outCtx l).state = .scheduled ↔ (s.entryOf .outbound l).isSome = true

/-- The staged status agrees with the outstanding offer and the BANK entry (R54, R55, R110), no second BANK entry
stands beside the first (R143), and the entry names the staged bank. -/
structure State.FlipShaped (s : State) : Prop where
  offered : s.se.flip.offer.isSome = true ↔ s.pst.status = .offered
  agreed : (s.entry .bank).isSome = true ↔ s.pst.status = .agreed
  single : ∀ e f, e ∈ s.sws → f ∈ s.sws → e.owner = .bank → f.owner = .bank → e = f
  target : ∀ e, s.entry .bank = some e → e.switch = .bank s.pst.staged

/-- The live bank has passed the commit checks, and so has the staged bank unless it is EDITING (R54, R68). -/
structure State.BanksChecked (s : State) : Prop where
  live : commitFailure s.liveBank = none
  staged : s.pst.status ≠ .editing → commitFailure s.stagedBank = none

/-- Each held digest is the digest of its bank (R63). -/
def State.DigestsHold (s : State) : Prop :=
  s.pst.digestA = bankDigest s.pst.bankA ∧ s.pst.digestB = bankDigest s.pst.bankB

/-- Profile 0 is in every lane mask and in no refused set (R66, R68). -/
def State.ZeroAllowed (s : State) : Prop :=
  (∀ l d, inSet (s.mask l d) 0 = true) ∧ ∀ l, inSet (s.inCtx l).refused 0 = false

/-- Every entry lies ahead of the current SFN, and the schedule stands in ascending order of that distance (R143,
R144). An expiry that is taken ahead of its start event may place an entry one superframe further (log 3). -/
structure State.ScheduleOrdered (s : State) : Prop where
  ahead : ∀ e ∈ s.sws, 1 ≤ distance s.sfn e.epoch ∧ distance s.sfn e.epoch ≤ 4097
  sorted : s.sws.Pairwise fun e f => distance s.sfn e.epoch ≤ distance s.sfn f.epoch

/-- Every pin stands in its context's allowed set, and a disabled lane has none (R86, R87, R93). -/
structure State.PinsAllowed (s : State) : Prop where
  inbound : ∀ l p, (s.inCtx l).pin = some p → s.enabled l = true ∧ allowed s .inbound l p = true
  outbound : ∀ l p, (s.outCtx l).pin = some p → s.enabled l = true ∧ allowed s .outbound l p = true

/-- The lists and counts within their capacities: the notice queue (R170), the seconds ring with its consecutive
sequence numbers (R184), the event counters (R181), the histogram bins (R186), the mismatch count (R127) and the
divergence count (R110). -/
structure State.Bounded (s : State) : Prop where
  queue : s.trp.queue.length ≤ 16
  ring : s.prc.ring.length ≤ 64
  sequences : ∀ i r, s.prc.ring[i]? = some r → r.sequence = s.prc.building.sequence - BitVec.ofNat 16 (i + 1)
  counters : ∀ c, s.counter c ≤ 65535
  bins : ∀ l d (p : Profile), ((s.prc.histogram.get l).get d)[p] ≤ 4294967295
  mismatch : s.ohl.lock.mismatch ≤ 2
  divergence : s.se.flip.divergence ≤ 3

/-- What no frame from the peer touches: time and the modem port's records, the grader, the banks with their digests
and masks, the deframer and the frame in transmission, the live maps, the parameters, and the recorder's ring,
second counter and histogram. -/
structure State.KeptByPeer (s t : State) : Prop where
  mdp : t.mdp = s.mdp
  qg : t.qg = s.qg
  banks : t.pst.bankA = s.pst.bankA ∧ t.pst.bankB = s.pst.bankB ∧ t.pst.live = s.pst.live
  digests : t.pst.digestA = s.pst.digestA ∧ t.pst.digestB = s.pst.digestB
  masks : t.pst.masks = s.pst.masks
  sending : t.ohl.tx.bits = s.ohl.tx.bits ∧ t.ohl.tx.frame = s.ohl.tx.frame ∧ t.ohl.tx.lastLane = s.ohl.tx.lastLane
  beacon : t.ohl.beacon = s.ohl.beacon
  maps : t.cal = s.cal
  hold : t.trp.hold = s.trp.hold
  management : t.mgp.cursor = s.mgp.cursor ∧ t.mgp.enables = s.mgp.enables ∧
    t.mgp.laneParams = s.mgp.laneParams ∧ t.mgp.params = s.mgp.params ∧ t.mgp.response = s.mgp.response
  recorder : t.prc.ring = s.prc.ring ∧ t.prc.second = s.prc.second ∧ t.prc.histogram = s.prc.histogram
  rest : t.modemOut = s.modemOut ∧ t.shares = s.shares ∧ t.pending = s.pending

/-- The priority of a slot, 1 the highest, by the message it holds (R132). -/
def slotPriority (t : Transmitter) : Source → Nat
  | .reply _ => 1
  | .flipAnswer => 2
  | .ask l => if holdsUrgent t l then 3 else 5
  | .flipOffer => 4
  | .beacon => 6

/-- The lane of a slot of a lane pair. -/
def Source.lane : Source → Option Lane
  | .reply l => some l
  | .ask l => some l
  | .flipAnswer => none
  | .flipOffer => none
  | .beacon => none

/-- The ranges of a lane's parameters (R24, R27, R49). -/
structure LaneParams.InRange (p : LaneParams) : Prop where
  window : p.window = 8 ∨ p.window = 16 ∨ p.window = 32 ∨ p.window = 64
  penalty : p.penalty ≤ 7
  thresholds : (∀ t ∈ p.thresholds.toList, t ≤ 1023) ∧ p.thresholds.toList.Pairwise (· > ·)
  hysteresis : p.hysteresis ≤ 63
  margins : p.fastDropMargin ≤ 255 ∧ p.branchMargin ≤ 255
  hold : p.branchHold ≤ 15

/-- The ranges of the parameters common to both lanes (R82, R119, R139, R180). -/
structure CommonParams.InRange (p : CommonParams) : Prop where
  longLead : 8 ≤ p.longLead ∧ p.longLead ≤ 255
  shortLead : 2 ≤ p.shortLead ∧ p.shortLead ≤ 64 ∧ p.shortLead ≤ p.longLead
  responseTime : 4 ≤ p.responseTime ∧ p.responseTime ≤ 255
  retryCount : p.retryCount ≤ 7
  flipLead : 256 ≤ p.flipLead ∧ p.flipLead ≤ 4096
  silenceLimit : 16 ≤ p.silenceLimit ∧ p.silenceLimit ≤ 4095
  beaconPeriod : 8 ≤ p.beaconPeriod ∧ p.beaconPeriod ≤ 1024
  secondLength : 250 ≤ p.secondLength ∧ p.secondLength ≤ 4000

/-- Every parameter item holds a value of its range (R180). -/
def State.ParamsInRange (s : State) : Prop := (∀ l, (s.laneParams l).InRange) ∧ s.params.InRange

/-- Each live map is the map of the live profiles, the lane enables and the live class table as they stand
(R161). -/
def State.MapsCurrent (s : State) : Prop := ∀ d, s.cal.live.get d = liveMapOf s d

/-! ## The notices of an event, in the terms of the statements -/

/-- No MAP-REPLY waits for a free link with the hold input inactive: the port would have begun it (R172). -/
def Trp.Quiet (p : Trp) : Prop := p.reply = none ∨ p.sending.isSome = true ∨ p.hold = true

/-- One notice handed to a quiet port: it joins the tail of the queue or empties a full one, and then a record begins
when the link is free and the hold input inactive, the RESYNC before a notice (R170 to R172). -/
def Trp.hand (p : Trp) (n : Notice) : Trp :=
  let q := if p.queue.length < 16 then { p with queue := p.queue ++ [n] } else { p with queue := [], resync := true }
  if q.sending.isSome || q.hold then q
  else if q.resync then { q with resync := false, sending := some .resync }
  else
    match q.queue with
    | m :: rest => { q with queue := rest, sending := some (.notice m) }
    | [] => q

/-- Notices handed over in turn. -/
def Trp.handAll (p : Trp) (ns : List Notice) : Trp := ns.foldl Trp.hand p

/-- The CAPACITY-NOTICE of a direction and epoch by the schedule and the live profiles as they stand: of each lane
the target of its entry when that is not later than the epoch, and else the live profile (R145, R164). -/
def State.capacityNotice (s : State) (d : Dir) (epoch : Sfn) : Notice :=
  let planned (l : Lane) : Profile :=
    match s.entryOf d l with
    | some e => if notEarlier s.sfn epoch e.epoch then e.profile else s.liveProfile d l
    | none => s.liveProfile d l
  .capacity d epoch (mapOf s (planned .zero) (planned .one))

/-- The notices of a withdrawal: CANCELLED, and a renewed forecast when another entry of the direction and epoch
remains (R152, R165). -/
def State.withdrawalNotices (s : State) (d : Dir) (epoch : Sfn) : List Notice :=
  .cancelled d epoch ::
    (if s.sws.any fun e => e.isDir d && e.epoch == epoch then [s.capacityNotice d epoch] else [])

/-- The notices of an insertion that replaces `old`, the schedule standing as it leaves it: the withdrawal of another
epoch, and the forecast (R145). -/
def State.insertionNotices (s : State) (d : Dir) (old : Option Entry) (epoch : Sfn) : List Notice :=
  (match old with
    | some e => if e.epoch = epoch then [] else s.withdrawalNotices d e.epoch
    | none => []) ++ [s.capacityNotice d epoch]

/-- The block flag of class `c` after a recomputation that replaces the live OUT map `old` by `new`: an enabled HOLD
class is blocked once its share falls from above 0 to 0, and any other class has no flag (R166). -/
def Bank.blockAfter (b : Bank) (blocked : ClassSet) (old new : SlotMap) (c : ClassNo) : Bool :=
  (b.cls c).enabled && (b.cls c).shed == .hold &&
    (blocked.getLsbD c || (decide (0 < old.share c) && new.share c == 0))

/-- The block notices of that recomputation, in class number order (R166). -/
def Bank.blockNotices (b : Bank) (blocked : ClassSet) (old new : SlotMap) : List Notice :=
  classNumbers.filterMap fun (c : ClassNo) =>
    match blocked.getLsbD c, b.blockAfter blocked old new c with
    | false, true => some (.classBlocked c)
    | true, false => some (.classReleased c)
    | false, false => none
    | true, true => none

/-- The direction of a direction entry. -/
def Entry.dir (e : Entry) : Option Dir :=
  match e.switch with
  | .context d _ _ => some d
  | .bank _ => none

/-! ## Decisions and settles, in the terms of the statements -/

/-- `q` is the highest profile below `p` that satisfies `f`, or profile 0 when there is none (R76, R84, R87). -/
def IsHighestBelow (f : Profile → Bool) (p q : Profile) : Prop :=
  (q < p ∧ f q = true ∧ ∀ r, q < r → r < p → f r = false) ∨ (q = 0 ∧ ∀ r, r < p → f r = false)

/-- `q` is the lowest profile above `p` that satisfies `f` (R77). -/
def IsLowestAbove (f : Profile → Bool) (p q : Profile) : Prop :=
  p < q ∧ f q = true ∧ ∀ r, p < r → r < q → f r = false

/-- From `s` to `t` the In context of lane `l` becomes `c` and hands over no ASK. -/
structure Stays (l : Lane) (c : InContext) (s t : State) : Prop where
  context : t.inCtx l = c
  slot : t.ohl.tx.ask.get l = s.ohl.tx.ask.get l
  count : t.counter (.se l .asksSent) = s.counter (.se l .asksSent)

/-- From `s` to `t` the In context of lane `l`, standing as `c`, sends an ASK: the flipped toggle, the outstanding ASK
in a response wait, the message in its slot, and the count (R78, R97). -/
structure Sends (l : Lane) (target : Profile) (urgency : Urgency) (c : InContext) (s t : State) : Prop where
  context : t.inCtx l = { c with
    state := .asking, toggle := !c.toggle, upHold := 0
    ask := some { target := target, urgency := urgency, toggle := !c.toggle, retries := s.params.retryCount
                  timer := s.params.responseTime, busy := false } }
  slot : t.ohl.tx.ask.get l = some ⟨target, urgency, !c.toggle⟩
  count : s.counter (.se l .asksSent) < 65535 →
    t.counter (.se l .asksSent) = s.counter (.se l .asksSent) + 1

/-- The deferred decision is recorded: URGENT for an urgent cause, and else as it was or NORMAL (R80). -/
def Defers (l : Lane) (urgentCause : Bool) (c : InContext) (s t : State) : Prop :=
  Stays l { c with deferred := some (if urgentCause then .urgent else c.deferred.getD .normal) } s t

/-- The down rule calls for a step: the grade is below the stay grade of p_in, or p_in is not allowed (R76). -/
def CallsDown (l : Lane) (c : InContext) (t : State) : Bool :=
  decide ((t.grader l).grade < (t.liveBank.profile c.pIn).stay) || !allowed t .inbound l c.pIn

/-- `q` is the down target: the highest allowed profile below p_in whose stay grade the grade meets, or 0 (R76). -/
def IsDownTarget (l : Lane) (c : InContext) (t : State) (q : Profile) : Prop :=
  IsHighestBelow
    (fun r => allowed t .inbound l r && decide ((t.liveBank.profile r).stay ≤ (t.grader l).grade)) c.pIn q

/-- The up rule, by the lowest allowed profile above p_in, its enter grade and its up hold (R77, R78). -/
def UpRule (l : Lane) (c : InContext) (s t : State) : Prop :=
  ((∀ u, c.pIn < u → allowed t .inbound l u = false) → Stays l { c with upHold := 0 } s t) ∧
  ∀ u, IsLowestAbove (allowed t .inbound l) c.pIn u →
    if (t.grader l).grade < (t.liveBank.profile u).enter then Stays l { c with upHold := 0 } s t
    else if (t.liveBank.profile u).upHold ≤ c.upHold + 1 then Sends l u .normal c s t
    else Stays l { c with upHold := c.upHold + 1 } s t

/-- A decision of the In context of lane `l`, standing as `c`, by its rules in order: pinned, down, and up when the
decision is one at a window close (R76). Grade, live bank and allowed set are those of `t`, which no decision
changes. -/
def Decides (l : Lane) (urgency : Urgency) (up : Bool) (c : InContext) (s t : State) : Prop :=
  match c.pin with
  | some p => if c.pIn = p then Stays l { c with upHold := 0 } s t else Sends l p .normal c s t
  | none =>
    if CallsDown l c t then
      ∀ q, IsDownTarget l c t q → if q = c.pIn then Stays l { c with upHold := 0 } s t else Sends l q urgency c s t
    else if up then UpRule l c s t
    else Stays l c s t

/-- A re-decision: the pinned and down rules with the urgency of the deferred decision, which is cleared, or the one
given; while far lane off is yes it is deferred (R80). -/
def ReDecides (l : Lane) (urgency : Urgency) (c : InContext) (s t : State) : Prop :=
  if c.farLaneOff then Defers l false c s t
  else Decides l (c.deferred.getD urgency) false { c with deferred := none } s t

/-- The In context of lane `l`, standing as `c`, enters STEADY, and takes its deferred decision when far lane off is
no (R80). -/
def EntersSteady (l : Lane) (c : InContext) (s t : State) : Prop :=
  let d := { c with state := .steady, ask := none, awaited := none, holdReason := none }
  if c.deferred.isSome && !c.farLaneOff then ReDecides l .normal d s t else Stays l d s t

/-- A grade update of the In context of lane `l` from `s` to `t`, by its state: a decision, a deferral, a supersession
by a lower down target, or nothing (R76, R79, R80). A FAST-DROP or LOCK-LOSS update clears the up-hold counter in
every state (R78, log 23). -/
def TakesUpdate (l : Lane) (k : UpdateKind) (s t : State) : Prop :=
  let urgent := k != .windowClose
  let urgency : Urgency := if urgent then .urgent else .normal
  let c := if urgent then { s.inCtx l with upHold := 0 } else s.inCtx l
  match c.state with
  | .steady => if c.farLaneOff then Defers l urgent c s t else Decides l urgency (!urgent) c s t
  | .asking =>
    match c.pin, c.ask with
    | none, some a =>
      if CallsDown l c t then
        ∀ q, IsDownTarget l c t q → if q < a.target then Sends l q urgency c s t else Stays l c s t
      else Stays l c s t
    | none, none => Stays l c s t
    | some _, _ => Stays l c s t
  | .awaiting => Defers l urgent c s t
  | .awaitingTag => Defers l urgent c s t
  | .held => Stays l c s t
  | .silent => Stays l c s t

/-- The ask and tag timers of lane `l` at a start event, from `s` to `t`. An ASK whose timer does not run out counts on;
at the end of a busy wait it is sent anew with its toggle flipped, at the end of a response wait it is handed over again
while retries are left, and after them the context enters STEADY, as it does when the tag timer runs out. A timer
whose share of the event is taken stands: its command came ahead of the event, or its ASK was handed over in the event
(R98, R102, R105, log 3). -/
structure AskTimersRun (l : Lane) (s t : State) : Prop where
  ask : ∀ a, (s.inCtx l).ask = some a →
    let c := s.inCtx l
    if Share.response l ∈ s.shares then Stays l c s t
    else if 1 < a.timer then Stays l { c with ask := some { a with timer := a.timer - 1 } } s t
    else if a.busy = false ∧ a.retries = 0 then EntersSteady l c s t
    else
      let toggle := if a.busy then !c.toggle else a.toggle
      let retries := if a.busy then a.retries else a.retries - 1
      t.inCtx l = { c with
        state := .asking, toggle := if a.busy then !c.toggle else c.toggle, upHold := 0
        ask := some ⟨a.target, a.urgency, toggle, retries, s.params.responseTime, false⟩ } ∧
      t.ohl.tx.ask.get l = some ⟨a.target, a.urgency, toggle⟩ ∧
      (s.counter (.se l .asksSent) < 65535 →
        t.counter (.se l .asksSent) = s.counter (.se l .asksSent) + 1)
  tag : ∀ w n, (s.inCtx l).ask = none → (s.inCtx l).awaited = some w → w.tagTimer = some n →
    let c := s.inCtx l
    if Share.tag l ∈ s.shares then Stays l c s t
    else if 1 < n then Stays l { c with awaited := some { w with tagTimer := some (n - 1) } } s t
    else EntersSteady l c s t
  rest : (s.inCtx l).ask = none → ((s.inCtx l).awaited.bind AwaitedSwitch.tagTimer) = none →
    Stays l (s.inCtx l) s t

/-- `m` is the margin state of lane `l`, by the rows of R32. -/
def IsMargin (s : State) (l : Lane) (m : Margin) : Prop :=
  let g := s.grader l
  let c := s.inCtx l
  let enter (p : Profile) : Nat := (s.liveBank.profile p).enter
  (m = .failing ↔ g.selectedLock = false ∨ g.grade = 0) ∧
  (m = .thin ↔ g.selectedLock = true ∧ g.grade ≠ 0 ∧ g.grade < enter c.pIn) ∧
  (m = .fair ↔ g.selectedLock = true ∧ g.grade ≠ 0 ∧ enter c.pIn ≤ g.grade ∧
    ∃ u, IsLowestAbove (allowed s .inbound l) c.pIn u ∧ g.grade < enter u)

/-- Where an internal switch asked for at SFN `n` with epoch `e` is placed: at `e`, or under the flip fence one before
the flip, or nowhere (R85). -/
def State.placed (s : State) (n e : Sfn) : Option Sfn :=
  match s.bankEpoch with
  | none => some e
  | some f => if notEarlier n e f then (if liesInTime n (f - 1) then some (f - 1) else none) else some e

/-- What a settle at SFN `n` that wants profile `w` leaves as the entry of an Out context at `pOut`, when `before` was
its entry: a committed entry and one whose target is `w` stay, an entry is removed when `w` is p_out, and else a
switch is made unless the fence drops it (R84, R85). -/
def entrySettled (l : Lane) (n : Sfn) (before : Option Entry) (pOut w : Profile) (source : EntrySource)
    (lead : Nat) (t : State) : Option Entry :=
  let made := match t.placed n (sfnPlus n lead) with
    | some e => some ⟨.context .outbound l w, e, source, false⟩
    | none => before
  match before with
  | none => if w = pOut then none else made
  | some e => if e.committed || e.profile == w then some e else if w = pOut then none else made

/-- The Out context of lane `l` has been settled at SFN `n` when its entry was `before`, not by a mask step: the pin
in PINNED, profile 0 in FALLBACK, and in ADAPTIVE the highest allowed profile below an outcome that is not allowed
(R84). A disabled lane is not settled. -/
def Settled (l : Lane) (n : Sfn) (before : Option Entry) (t : State) : Prop :=
  let c := t.outCtx l
  let outcome := match before with
    | some e => e.profile
    | none => c.pOut
  if t.enabled l = false then t.entryOf .outbound l = before
  else
    match c.mode with
    | .pinned => ∀ p, c.pin = some p →
      t.entryOf .outbound l = entrySettled l n before c.pOut p .pin t.params.longLead t
    | .fallback => t.entryOf .outbound l = entrySettled l n before c.pOut 0 .silence t.params.shortLead t
    | .adaptive =>
      if allowed t .outbound l outcome then t.entryOf .outbound l = before
      else ∀ q, IsHighestBelow (allowed t .outbound l) outcome q →
        t.entryOf .outbound l = entrySettled l n before c.pOut q .mask t.params.longLead t

/-- `new` is the pin `old` after pin maintenance: the same while it is allowed, and else the highest allowed profile
below it, or 0 (R87). -/
def Maintained (d : Dir) (l : Lane) (old new : Option Profile) (t : State) : Prop :=
  (old = none → new = none) ∧
  ∀ p, old = some p →
    if allowed t d l p then new = some p
    else ∃ q, new = some q ∧ IsHighestBelow (allowed t d l) p q

/-- From `u` to `t` a BANK entry for the staged bank has been inserted at epoch `f`, the schedule having held none: the
direction entries not earlier than `f` are gone, each with its CANCELLED notice in schedule order, and the earlier
ones stay; an Out owner of a removed entry is in STEADY, and an In owner in AWAITING enters STEADY (R144, R146). -/
structure Fenced (f : Sfn) (u t : State) : Prop where
  bank : t.entry .bank = some ⟨.bank u.pst.staged, f, .flip, false⟩
  only : ∀ e ∈ t.sws, e.owner ≠ .bank → e ∈ u.sws ∧ notEarlier u.sfn e.epoch f = false
  kept : ∀ e ∈ u.sws, notEarlier u.sfn e.epoch f = false → e ∈ t.sws
  outOwners : ∀ l, t.outCtx l =
    if u.sws.any fun e => e.owner == .context .outbound l && notEarlier u.sfn e.epoch f then
      { u.outCtx l with state := .steady }
    else u.outCtx l
  inOwners : ∀ l,
    if ((u.inCtx l).state == .awaiting) &&
        u.sws.any fun e => e.owner == .context .inbound l && notEarlier u.sfn e.epoch f then
      EntersSteady l (u.inCtx l) u t
    else Stays l (u.inCtx l) u t
  notices : u.trp.Quiet → t.trp = u.trp.handAll
    ((u.sws.filter fun e => notEarlier u.sfn e.epoch f).filterMap fun e => e.dir.map fun d => .cancelled d e.epoch)

end Sys2Proof.Machine
end

