-- ==== Sys2Proof/Certificates/Slice0/Obligations.lean ====
section
/-! DEFINITION. The statements for the provers, in the order of OBLIGATIONS.json. -/

open Sys2Proof Sys2Proof.Machine

/-! ## The step, reset and the invariants -/

/-- The step takes the command at the front of the queue and runs it with the rest waiting; with nothing waiting
the part idles, which is the model's choice (log 1). -/
def Obligations.StepRunsFrontCommand : Prop :=
  (∀ c rest s, s.pending = c :: rest → step s = exec c { s with pending := rest }) ∧
    ∀ s, s.pending = [] → step s = .next s

/-- POWER ON RESET reaches the same values from every state: those that spec/01 to 07 and 09 to 11 give. The level of
the hold input and the waiting commands are not the part's and stay (log 5), and no emitted record, share of a start
event or response is held (logs 3 and 6): these are the model's choices. -/
def Obligations.PowerOnResetGivesDefaults : Prop :=
  ∀ s, ∃ t, exec .powerOnReset s = .next t ∧ t.sfn = 0 ∧ (∀ l, t.enabled l = true) ∧
    (let h := t.mdp.history
     h.twoAgo.sfn = 65534 ∧ h.oneAgo.sfn = 65535 ∧ h.current.sfn = 0 ∧ h.next.sfn = 1 ∧
     ∀ w ∈ [h.twoAgo, h.oneAgo, h.current, h.next], w.bank = .a ∧ w.flipMarker = false ∧ ∀ l, w.lane l =
      { enabled := true, outProfile := 0, outConstellation := 0, outRate := 0, inProfile := 0, inConstellation := 0
        inRate := 0, branch := .main }) ∧
    (∀ l b, (t.mdp.taken.get l).get b = ⟨false, false, false⟩) ∧
    t.pst.live = .a ∧ t.pst.status = .editing ∧ t.liveBank = .base ∧ t.stagedBank = .fill ∧
    t.liveDigest = bankDigest .base ∧ t.stagedDigest = bankDigest .fill ∧
    (∀ l d, t.mask l d = 0xFFFF) ∧ t.sws = [] ∧ t.cal = .reset ∧ t.se = .reset ∧ t.ohl = .reset ∧
    (∀ l, t.grader l = .restart ∧ t.laneParams l = .default) ∧ t.params = .default ∧ t.mgp.flags = 0 ∧
    t.mgp.enables = 0 ∧ t.mgp.cursor = ⟨.stagedLadder, 0⟩ ∧ (∀ c, t.counter c = 0) ∧ t.prc.ring = [] ∧
    t.prc.second = 0 ∧ (∀ l d (p : Profile), ((t.prc.histogram.get l).get d)[p] = 0) ∧
    t.prc.building.sequence = 0 ∧ t.prc.building.lockLost = false ∧ t.prc.building.peerSilent = false ∧
    t.prc.building.flipCompleted = false ∧ (∀ l, t.prc.building.lanes.get l =
      { worstGrade := 0, bestGrade := 0, correctedTotal := 0, uncorrectedTotal := 0, unlocked := 0, lowestIn := 0
        lowestOut := 0, endIn := 0, enabledAtEnd := true, switches := 0, fastDrops := 0, worstFarMargin := none }) ∧
    t.trp.queue = [] ∧ t.trp.reply = none ∧ t.trp.resync = false ∧ t.trp.sending = none ∧
    t.trp.hold = s.trp.hold ∧ t.mgp.response = none ∧ t.modemOut = [] ∧ t.shares = [] ∧ t.pending = s.pending

/-- The machine right after power-on reset satisfies every invariant of Safety.lean. -/
def Obligations.ResetSatisfiesInvariants : Prop :=
  State.reset.GradesBounded ∧ State.reset.ParamsInRange ∧ State.reset.ContextsShaped ∧
    State.reset.ScheduleShaped ∧ State.reset.ScheduleOrdered ∧ State.reset.FlipShaped ∧
    State.reset.BanksChecked ∧ State.reset.DigestsHold ∧ State.reset.ZeroAllowed ∧ State.reset.PinsAllowed ∧
    State.reset.Bounded ∧ State.reset.MapsCurrent

/-- Grades, window sums and stored metrics stay within their bounds at every step. -/
def Obligations.StepKeepsGradesBounded : Prop :=
  ∀ s t, s.GradesBounded → step s = .next t → t.GradesBounded

/-- Every parameter item stays within its range at every step. -/
def Obligations.StepKeepsParamsInRange : Prop :=
  ∀ s t, s.ParamsInRange → step s = .next t → t.ParamsInRange

/-- Each context keeps exactly the fields of its state at every step: an outstanding ASK in ASKING, an awaited switch
in AWAITING and AWAITING-TAG, a tag timer in AWAITING-TAG, a hold reason in HELD, a pin in PINNED; and the up-hold
counter stands at 0 outside STEADY. -/
def Obligations.StepKeepsContextsShaped : Prop :=
  ∀ s t, s.ContextsShaped → step s = .next t → t.ContextsShaped

/-- One entry per owner, and an Out context SCHEDULED exactly while it has one, at every step. -/
def Obligations.StepKeepsScheduleShaped : Prop :=
  ∀ s t, s.ScheduleShaped → step s = .next t → t.ScheduleShaped

/-- Every entry lies ahead, in ascending order of distance, at every step. -/
def Obligations.StepKeepsScheduleOrdered : Prop :=
  ∀ s t, s.ScheduleShaped → s.ScheduleOrdered → step s = .next t → t.ScheduleOrdered

/-- The staged status, the outstanding offer and the BANK entry stay in agreement at every step. -/
def Obligations.StepKeepsFlipShaped : Prop :=
  ∀ s t, s.FlipShaped → step s = .next t → t.FlipShaped

/-- The live bank, and a staged bank that is not EDITING, have passed every commit check, at every step. -/
def Obligations.StepKeepsBanksChecked : Prop :=
  ∀ s t, s.FlipShaped → s.BanksChecked → step s = .next t → t.BanksChecked

/-- Each digest is that of its bank, and profile 0 stays in every mask and out of every refused set. -/
def Obligations.StepKeepsDigestsAndProfileZero : Prop :=
  ∀ s t, step s = .next t → (s.DigestsHold → t.DigestsHold) ∧ (s.ZeroAllowed → t.ZeroAllowed)

/-- A pin is always within its context's allowed set. -/
def Obligations.StepKeepsPinsAllowed : Prop :=
  ∀ s t, s.FlipShaped → s.BanksChecked → s.ZeroAllowed → s.PinsAllowed → step s = .next t → t.PinsAllowed

/-- The notice queue, the seconds ring and the saturating counts stay within their limits. -/
def Obligations.StepKeepsCapacities : Prop :=
  ∀ s t, s.Bounded → step s = .next t → t.Bounded

/-- Each live map stays the map of the live profiles, the lane enables and the live class table. -/
def Obligations.StepKeepsMapsCurrent : Prop :=
  ∀ s t, s.MapsCurrent → step s = .next t → t.MapsCurrent

/-! ## The start event, and the expiries and completions that belong to one -/

/-- SUPERFRAME START: the SFN, the plan history and the acceptance record move on by one superframe, one plan word
and one segment go out, every entry for the next superframe is committed and none for the present one is left. The
segment is what the draw gives after the work before it, on the bits and the messages that stood in the transmitter and
the ASKs that the completions and the missing reports handed over; the timers of the asks and tags, of the offer and of
the beacon run and hand theirs over behind it (log 2). That the records are held in modemOut, that the shares are
cleared, that a timer whose share is taken stands, and that an ask or tag timer at 0 runs out like one at 1 is the
model's choice (logs 6, 3 and 22). -/
def Obligations.SuperframeStartMovesOn : Prop :=
  ∀ s, s.ScheduleShaped → ∃ t, exec .superframeStart s = .next t ∧
    t.sfn = s.sfn + 1 ∧ t.mdp.enabled = s.mdp.enabled ∧
    t.mdp.history.twoAgo = s.mdp.history.oneAgo ∧ t.mdp.history.oneAgo = s.mdp.history.current ∧
    t.mdp.history.current = s.mdp.history.next ∧ t.mdp.history.next.sfn = s.sfn + 2 ∧
    (∀ l b, (t.mdp.taken.get l).get b =
      ⟨((s.mdp.taken.get l).get b).oneAgo, ((s.mdp.taken.get l).get b).current, false⟩) ∧
    (let u := untilDraw s
     let r := drawSegment u (s.sfn + 2)
     u.sfn = s.sfn + 1 ∧ u.liveDigest = t.liveDigest ∧ u.params = s.params ∧
     u.ohl.tx = { s.ohl.tx with ask := u.ohl.tx.ask } ∧
     t.modemOut = [.planWord t.mdp.history.next, .overheadOut (s.sfn + 2) r.1] ∧
     ∃ v, v.qg = u.qg ∧ v.pst = u.pst ∧
     (s.ContextsShaped → ∀ l, AskTimersRun l (setTx r.2 u) v) ∧
     (∀ l, t.inCtx l =
      if s.params.silenceLimit ≤ s.ohl.silence + 1 ∧ Share.silence ∉ s.shares ∧ s.se.peerSilent = false then
        { v.inCtx l with
          state := .silent, ask := none, awaited := none, upHold := 0, holdReason := none, deferred := none }
      else v.inCtx l) ∧
     t.ohl.tx = { r.2 with
      ask := v.ohl.tx.ask
      flipOffer := (match s.se.flip.offer with
        | some o =>
          if o.timer ≤ 1 ∧ 0 < o.retries ∧ Share.offer ∉ s.shares then
            some ⟨o.toggle, o.digest, o.epoch, s.params.stationId⟩
          else r.2.flipOffer
        | none => r.2.flipOffer)
      beacon := r.2.beacon || decide (s.params.beaconPeriod ≤ s.ohl.beacon + 1 ∧ Share.beacon ∉ s.shares) }) ∧
    (∀ e ∈ t.sws, e.epoch ≠ t.sfn ∧ (e.epoch = t.sfn + 1 → e.committed = true)) ∧
    t.pst.bankA = s.pst.bankA ∧ t.pst.bankB = s.pst.bankB ∧ t.pst.masks = s.pst.masks ∧
    t.ohl.deframer = s.ohl.deframer ∧ t.ohl.lock = s.ohl.lock ∧ t.ohl.far = s.ohl.far ∧
    t.mgp.cursor = s.mgp.cursor ∧ t.mgp.enables = s.mgp.enables ∧ t.mgp.laneParams = s.mgp.laneParams ∧
    t.mgp.params = s.mgp.params ∧ t.mgp.response = s.mgp.response ∧ t.trp.hold = s.trp.hold ∧
    t.shares = [] ∧ t.pending = s.pending

/-- The plan word a start event emits: a disabled lane's fixed fields; an enabled lane's selected branch, and the
target of an entry for the word's superframe or else the live profile; the bank tag, flip marker and remapped
profiles of a committed BANK entry; and the constellation and rate of each profile in the word's bank. -/
def Obligations.PlanWordFollowsSchedule : Prop :=
  ∀ s t, exec .superframeStart s = .next t →
    let w := t.mdp.history.next
    (w.flipMarker = true ↔ ∃ e, t.entry .bank = some e ∧ e.epoch = w.sfn) ∧
    (w.flipMarker = false → w.bank = t.pst.live) ∧
    (w.flipMarker = true → ∃ e, t.entry .bank = some e ∧ e.switch = .bank w.bank) ∧
    (∀ l, (w.lane l).enabled = s.enabled l) ∧
    (∀ l, s.enabled l = false →
      (w.lane l).outProfile = 0 ∧ (w.lane l).inProfile = 0 ∧ (w.lane l).branch = .main) ∧
    (∀ l, s.enabled l = true → (w.lane l).branch = (t.grader l).selected) ∧
    (∀ l, s.enabled l = true → w.flipMarker = false →
      (w.lane l).outProfile = (match t.entryOf .outbound l with
        | some e => if e.epoch = w.sfn then e.profile else (t.outCtx l).pOut
        | none => (t.outCtx l).pOut) ∧
      (w.lane l).inProfile = (match t.entryOf .inbound l with
        | some e => if e.epoch = w.sfn then e.profile else (t.inCtx l).pIn
        | none => (t.inCtx l).pIn)) ∧
    (∀ l, s.enabled l = true → w.flipMarker = true →
      (w.lane l).outProfile = remap t (t.pst.bank w.bank) .outbound l (t.outCtx l).pOut ∧
      (w.lane l).inProfile = remap t (t.pst.bank w.bank) .inbound l (t.inCtx l).pIn) ∧
    (∀ l, (w.lane l).outConstellation = ((t.pst.bank w.bank).profile (w.lane l).outProfile).constellation ∧
      (w.lane l).outRate = ((t.pst.bank w.bank).profile (w.lane l).outProfile).rate ∧
      (w.lane l).inConstellation = ((t.pst.bank w.bank).profile (w.lane l).inProfile).constellation ∧
      (w.lane l).inRate = ((t.pst.bank w.bank).profile (w.lane l).inProfile).rate)

/-- The timers and the recorder at a start event, none of whose timers has been taken ahead of it: the silence and
beacon timers, the second counter with the ring, and the histogram of the word that becomes current. That no timer has
been taken ahead is the premise of log 3, and that a BEACON handed over at the event still stands in its slot after it
is the order of log 2: the segment is drawn ahead of the timers. Both are the model's choices. -/
def Obligations.StartEventTicksTimersAndRecorder : Prop :=
  ∀ s, s.shares = [] → ∃ t, exec .superframeStart s = .next t ∧
    (let w := s.mdp.history.next
     (if s.params.silenceLimit ≤ s.ohl.silence + 1 then t.ohl.silence = 0 ∧ t.se.peerSilent = true
     else t.ohl.silence = s.ohl.silence + 1 ∧ t.se.peerSilent = s.se.peerSilent) ∧
     (if s.params.beaconPeriod ≤ s.ohl.beacon + 1 then t.ohl.beacon = 0 ∧ t.ohl.tx.beacon = true
     else t.ohl.beacon = s.ohl.beacon + 1) ∧
     (if s.params.secondLength ≤ s.prc.second + 1 then
      t.prc.second = 0 ∧ (∃ r, t.prc.ring = (r :: s.prc.ring).take 64 ∧ r.sequence = s.prc.building.sequence) ∧
        t.prc.building.sequence = s.prc.building.sequence + 1 ∧ t.flagSet .recordReady = true
     else t.prc.second = s.prc.second + 1 ∧ t.prc.ring = s.prc.ring ∧
        t.prc.building.sequence = s.prc.building.sequence) ∧
     ∀ l d (p : Profile),
      let before := if w.flipMarker then 0 else ((s.prc.histogram.get l).get d)[p]
      let planned := match d with
        | .inbound => (w.lane l).inProfile
        | .outbound => (w.lane l).outProfile
      ((t.prc.histogram.get l).get d)[p] =
        if (w.lane l).enabled = true ∧ p = planned then min 4294967295 (before + 1) else before)

/-- The missing reports of a start event: each is counted. One of the branch that its superframe's plan word selected
takes the grade to 0, restarts that branch's window, enters the seconds record, and updates the lane's In context
urgently, its tag run broken; a lane without one keeps its In context as the completions left it. One of the other
branch joins that branch's window only, which a lock loss ahead of it may have emptied. A lane without either keeps its
grader. The up-hold counter that a lock loss clears when no rule of R76 applies is the model's reading (log 23), and the
completions ahead of the missing reports are the order of log 2. -/
def Obligations.MissingReportsAreSynthesised : Prop :=
  ∀ s, ∃ t, exec .superframeStart s = .next t ∧
    (let w := s.mdp.history.twoAgo
     let missing (l : Lane) (b : Branch) : Bool :=
      s.enabled l && (w.lane l).enabled && !((s.mdp.taken.get l).get b).twoAgo
     let count := [missing .zero .main, missing .zero .div, missing .one .main, missing .one .div].count true
     let done := completeBank (completeDirections (setSfn (s.sfn + 1) s))
     let u := untilDraw s
     (s.counter (.mdp .missing) + count ≤ 65535 →
      t.counter (.mdp .missing) = s.counter (.mdp .missing) + count) ∧
     ∀ l, let g := s.grader l
      let selected := (w.lane l).branch
      let x := done.prc.building.lanes.get l
      let y := u.prc.building.lanes.get l
      t.grader l = u.grader l ∧
      (missing l selected = true →
        (t.grader l).grade = 0 ∧ (t.grader l).worst = 0 ∧ (t.grader l).selectedLock = false ∧
        (t.grader l).branches.get selected =
          { g.branches.get selected with sum := 0, uncorrected := 0, count := 0, latestLock := false } ∧
        TakesUpdate l .lockLoss (setIn l { done.inCtx l with tagRun := none } done) u ∧
        y = { x with worstGrade := 0, unlocked := y.unlocked, fastDrops := min 65535 (x.fastDrops + 1) } ∧
        (x.unlocked < 4000 → y.unlocked = x.unlocked + 1)) ∧
      (missing l selected = false → Stays l (done.inCtx l) done u ∧ y = x) ∧
      (∀ b, b ≠ selected → missing l b = true →
        (∀ f, (s.laneParams l).branchMode.fixed = some f → g.selected = f ∨ selected = f) →
        let p := s.laneParams l
        let b0 := g.branches.get b
        let emptied := missing l selected && b == .div && p.branchMode == .auto && g.selected == .main && b0.latestLock
        let sum := (if emptied then 0 else b0.sum) + 1023
        let errors := (if emptied then 0 else b0.uncorrected) + 15
        let n := (if emptied then 0 else b0.count) + 1
        (t.grader l).branches.get b =
          if n < p.window then { b0 with sum := sum, uncorrected := errors, count := n, latestLock := false }
          else { b0 with
            sum := 0, uncorrected := 0, count := 0, latestLock := false
            lastMetric := some (min 1023 ((sum + p.window / 2) / p.window + p.penalty * errors)) }) ∧
      (missing l .main = false → missing l .div = false → t.grader l = g))

/-- ENTRY COMPLETION, for the entries of the current superframe or, when there are none, of the one that is about to
start (log 3): each owner takes its target, an In context in AWAITING enters STEADY and takes its deferred decision,
an Out context is settled, the entries leave and the others stay. The switch counts of the lanes follow; the live map
of each direction concerned is recomputed with its SWITCHED notice, in the order of the first completing entry, and
for OUT with the block flags and their notices. Ahead of these stand only the CAPACITY-NOTICEs of the settles
(log 21). -/
def Obligations.EntryCompletionTakesTargets : Prop :=
  ∀ s, s.ScheduleShaped → ∃ t, exec .entryCompletion s = .next t ∧
    (let n := if (dueEntries s).isEmpty then s.sfn + 1 else s.sfn
     let due := s.sws.filter fun e => e.owner != .bank && e.epoch == n
     let dirs := (due.filterMap Entry.dir).eraseDups
     (∀ e ∈ due, ∀ d l p, e.switch = .context d l p →
        t.liveProfile d l = p ∧ t.cal.live.get d = liveMapOf t d ∧
        (d = .inbound →
          if (s.inCtx l).state = .awaiting then EntersSteady l { s.inCtx l with pIn := p, upHold := 0 } s t
          else Stays l { s.inCtx l with pIn := p, upHold := 0 } s t) ∧
        (d = .outbound → 2 ≤ s.params.longLead → s.params.longLead ≤ 255 → 2 ≤ s.params.shortLead →
          s.params.shortLead ≤ 64 → Settled l n none t)) ∧
     (∀ d l, (∀ e ∈ due, ∀ p, e.switch ≠ .context d l p) →
        t.liveProfile d l = s.liveProfile d l ∧ (d = .inbound → Stays l (s.inCtx l) s t) ∧
        (d = .outbound → t.outCtx l = s.outCtx l)) ∧
     (∀ e ∈ s.sws, (e.owner = .bank ∨ e.epoch ≠ n) → e ∈ t.sws) ∧
     (∀ e ∈ t.sws, e.owner ≠ .bank → e.epoch ≠ n) ∧
     (∀ d, d ∉ dirs → t.cal.live.get d = s.cal.live.get d) ∧
     (∀ c : ClassNo, t.cal.blocked.getLsbD c =
        if Dir.outbound ∈ dirs then s.liveBank.blockAfter s.cal.blocked s.cal.live.outbound t.cal.live.outbound c
        else s.cal.blocked.getLsbD c) ∧
     (s.trp.Quiet → ∃ ns, (∀ x ∈ ns, ∃ e m, x = .capacity .outbound e m) ∧
        ((∀ e ∈ t.sws, e ∈ s.sws) → ns = []) ∧
        t.trp = s.trp.handAll (ns ++ dirs.flatMap fun d => .switched d n (t.cal.live.get d) ::
          match d with
          | .inbound => []
          | .outbound => s.liveBank.blockNotices s.cal.blocked s.cal.live.outbound t.cal.live.outbound)) ∧
     ∀ l, let up := ([Dir.inbound, Dir.outbound].filter fun d =>
            due.any fun e => e.owner == .context d l && decide (s.liveProfile d l < e.profile)).length
          let down := ([Dir.inbound, Dir.outbound].filter fun d =>
            due.any fun e => e.owner == .context d l && decide (e.profile < s.liveProfile d l)).length
          (s.counter (.se l .switchesUp) + up ≤ 65535 →
            t.counter (.se l .switchesUp) = s.counter (.se l .switchesUp) + up) ∧
          (s.counter (.se l .switchesDown) + down ≤ 65535 →
            t.counter (.se l .switchesDown) = s.counter (.se l .switchesDown) + down) ∧
          ((s.prc.building.lanes.get l).switches + up + down ≤ 65535 →
            t.prc.building.lanes.get l = { s.prc.building.lanes.get l with
              switches := (s.prc.building.lanes.get l).switches + up + down })) ∧
    t.mdp = s.mdp ∧ t.qg = s.qg ∧ t.pst = s.pst ∧ t.se.peerSilent = s.se.peerSilent ∧ t.se.flip = s.se.flip ∧
    t.ohl.deframer = s.ohl.deframer ∧ t.ohl.lock = s.ohl.lock ∧ t.ohl.silence = s.ohl.silence ∧
    t.ohl.beacon = s.ohl.beacon ∧ t.ohl.far = s.ohl.far ∧ t.mgp.params = s.mgp.params ∧
    t.mgp.laneParams = s.mgp.laneParams ∧ t.mgp.response = s.mgp.response ∧ t.prc.ring = s.prc.ring ∧
    t.prc.histogram = s.prc.histogram ∧ t.modemOut = s.modemOut ∧ t.pending = s.pending

/-- BANK ENTRY COMPLETION, for a BANK entry of the current superframe or of the one about to start (log 3): the bank
it names becomes live and the other is EDITING; every context takes the remap of its profile, a maintained pin and a
cleared refused set and up-hold counter; exchanges in ASKING and AWAITING-TAG and HELD for BANK end in STEADY, every
In context then in STEADY takes a re-decision, and every Out context is settled. That a replaced In pin is in place
ahead of that one re-decision is the model's reading of R87 and R91 (log 12). The live maps follow under the new
bank with SWITCHED IN, SWITCHED OUT, the block flags and their notices, the CAPACITY-NOTICEs of the settles last; and
the coordinator and the flags record the flip. Without such an entry nothing changes. -/
def Obligations.BankEntryCompletionFlips : Prop :=
  (∀ s, (∀ e ∈ s.sws, e.owner = .bank → e.epoch ≠ s.sfn ∧ e.epoch ≠ s.sfn + 1) →
    exec .bankEntryCompletion s = .next s) ∧
  ∀ s e x, s.entry .bank = some e → e.switch = .bank x → (e.epoch = s.sfn ∨ e.epoch = s.sfn + 1) →
    ∃ t, exec .bankEntryCompletion s = .next t ∧
      t.pst.live = x ∧ t.pst.status = .editing ∧ t.entry .bank = none ∧
      t.pst.bankA = s.pst.bankA ∧ t.pst.bankB = s.pst.bankB ∧ t.pst.digestA = s.pst.digestA ∧
      t.pst.digestB = s.pst.digestB ∧ t.pst.masks = s.pst.masks ∧
      (∀ l, let c := s.inCtx l
        (t.inCtx l).pIn = remap s (s.pst.bank x) .inbound l c.pIn ∧
        (t.inCtx l).refused = 0 ∧ (t.inCtx l).upHold = 0 ∧ Maintained .inbound l c.pin (t.inCtx l).pin t ∧
        (let c : InContext := { c with pIn := (t.inCtx l).pIn, refused := 0, upHold := 0, pin := (t.inCtx l).pin }
         if c.state = .asking ∨ c.state = .awaitingTag ∨ (c.state = .held ∧ c.holdReason = some .bank) then
          ReDecides l .normal
            { c with state := .steady, ask := none, awaited := none, holdReason := none } s t
         else if c.state = .steady then ReDecides l .normal c s t
         else Stays l c s t) ∧
        t.entryOf .inbound l = s.entryOf .inbound l) ∧
      (∀ l, (t.outCtx l).pOut = remap s (s.pst.bank x) .outbound l (s.outCtx l).pOut ∧
        (t.outCtx l).mode = (s.outCtx l).mode ∧ (t.outCtx l).lastAnswer = (s.outCtx l).lastAnswer ∧
        Maintained .outbound l (s.outCtx l).pin (t.outCtx l).pin t ∧
        (s.ScheduleShaped → 2 ≤ s.params.longLead → s.params.longLead ≤ 255 → 2 ≤ s.params.shortLead →
          s.params.shortLead ≤ 64 → Settled l e.epoch (s.entryOf .outbound l) t)) ∧
      t.se.flip = { s.se.flip with lastAgreement := none, divergence := 0 } ∧ t.flagSet .flipDone = true ∧
      t.prc.building.flipCompleted = true ∧ (∀ d, t.cal.live.get d = liveMapOf t d) ∧
      (∀ c : ClassNo, t.cal.blocked.getLsbD c =
        (s.pst.bank x).blockAfter s.cal.blocked s.cal.live.outbound t.cal.live.outbound c) ∧
      (s.trp.Quiet → (∀ l, s.entryOf .outbound l = none) →
        ∃ ns, (∀ y ∈ ns, ∃ e m, y = .capacity .outbound e m) ∧
          ((∀ l, t.entryOf .outbound l = none) → ns = []) ∧
          t.trp = s.trp.handAll (.switched .inbound e.epoch t.cal.live.inbound ::
            .switched .outbound e.epoch t.cal.live.outbound ::
            (s.pst.bank x).blockNotices s.cal.blocked s.cal.live.outbound t.cal.live.outbound ++ ns)) ∧
      (∀ y ∈ s.shares, y ∈ t.shares) ∧
      (∀ y ∈ t.shares, y ∈ s.shares ∨ ∃ l, y = .response l ∧ (t.inCtx l).ask.isSome = true) ∧
      t.mdp = s.mdp ∧ t.qg = s.qg ∧ t.se.peerSilent = s.se.peerSilent ∧ t.ohl.deframer = s.ohl.deframer ∧
      t.ohl.lock = s.ohl.lock ∧ t.ohl.silence = s.ohl.silence ∧ t.mgp.params = s.mgp.params ∧
      t.mgp.cursor = s.mgp.cursor ∧ t.mgp.response = s.mgp.response ∧ t.prc.ring = s.prc.ring ∧
      t.prc.histogram = s.prc.histogram ∧ t.modemOut = s.modemOut ∧ t.pending = s.pending

/-- SILENCE TIMER EXPIRY: the timer restarts; the first expiry of a silence sets the mark, moves every In context to
SILENT and every Out context that is not PINNED to FALLBACK, with a switch to profile 0; a PINNED one is settled. A
later expiry changes nothing in the contexts. Without an expiry nothing changes. Three clauses are the model's choice:
the share that the command takes of the start event that is arriving (log 3), the settle of a PINNED context (log 11),
and the switch to 0 that replaces an uncommitted entry of a context that stands at profile 0 already, where step 4 of
R84 would remove the entry (log 10). -/
def Obligations.SilenceExpirySetsFallback : Prop :=
  (∀ s, s.ohl.silence + 1 < s.params.silenceLimit ∨ Share.silence ∈ s.shares →
    exec .silenceTimerExpiry s = .next s) ∧
  ∀ s, s.params.silenceLimit ≤ s.ohl.silence + 1 → Share.silence ∉ s.shares →
    (s.se.peerSilent = true → exec .silenceTimerExpiry s =
      .next { s with ohl := { s.ohl with silence := 0 }, shares := .silence :: s.shares }) ∧
    (s.se.peerSilent = false → ∃ t, exec .silenceTimerExpiry s = .next t ∧ t.ohl.silence = 0 ∧
      t.shares = .silence :: s.shares ∧ t.se.peerSilent = true ∧ t.flagSet .peerSilent = true ∧
      (∀ f, f ≠ .peerSilent → f ≠ .trafficResync → t.flagSet f = s.flagSet f) ∧
      t.prc.building = { s.prc.building with peerSilent := true } ∧
      (∀ l, t.inCtx l = { s.inCtx l with
        state := .silent, ask := none, awaited := none, upHold := 0, holdReason := none, deferred := none }) ∧
      (∀ l, (t.outCtx l).mode = (if (s.outCtx l).mode = .pinned then .pinned else .fallback) ∧
        (t.outCtx l).pOut = (s.outCtx l).pOut ∧ (t.outCtx l).pin = (s.outCtx l).pin ∧
        (t.outCtx l).lastAnswer = (s.outCtx l).lastAnswer) ∧
      (∀ l e, s.entryOf .outbound l = some e → e.committed = true → t.entryOf .outbound l = some e) ∧
      (∀ l, s.entryOf .outbound l = none → (s.outCtx l).mode ≠ .pinned → (s.outCtx l).pOut = 0 →
        t.entryOf .outbound l = none) ∧
      (∀ l, (s.outCtx l).mode = .pinned → 2 ≤ s.params.longLead → s.params.longLead ≤ 255 → s.ScheduleShaped →
        Settled l (s.sfn + 1) (s.entryOf .outbound l) t) ∧
      (∀ l, (s.outCtx l).mode ≠ .pinned → s.entry .bank = none → 2 ≤ s.params.shortLead →
        s.params.shortLead ≤ 64 →
        (∀ e, s.entryOf .outbound l = some e → e.committed = false) →
        ((s.outCtx l).pOut ≠ 0 ∨ (s.entryOf .outbound l).isSome = true) →
        t.entryOf .outbound l =
          some ⟨.context .outbound l 0, sfnPlus (s.sfn + 1) s.params.shortLead, .silence, false⟩) ∧
      (∀ l, t.entryOf .inbound l = s.entryOf .inbound l) ∧ t.entry .bank = s.entry .bank ∧
      t.mdp = s.mdp ∧ t.qg = s.qg ∧ t.pst = s.pst ∧ t.se.flip = s.se.flip ∧ t.cal = s.cal ∧
      t.ohl = { s.ohl with silence := 0 } ∧ t.mgp.params = s.mgp.params ∧ t.mgp.response = s.mgp.response ∧
      t.prc.counters = s.prc.counters ∧ t.prc.ring = s.prc.ring ∧ t.modemOut = s.modemOut ∧
      t.pending = s.pending)

/-- The timer of an outstanding ASK runs out. RESPONSE TIMER EXPIRY hands the same ASK over again while retries are
left and gives up after them; BUSY WAIT EXPIRY asks again with a flipped toggle and the retries kept; TAG TIMER
EXPIRY ends AWAITING-TAG. A context that ends an exchange so takes its deferred decision. A command whose timer does
not run out changes nothing. The shares of the arriving start event, and that a timer at 0 runs out like one at 1, are
the model's choice (logs 3 and 22). -/
def Obligations.AskTimersExpire : Prop :=
  ∀ s l,
    (∀ a, (s.inCtx l).ask = some a → a.timer ≤ 1 → Share.response l ∉ s.shares → a.busy = false → 0 < a.retries →
      exec (.responseTimerExpiry l) s = .next (addShare (.response l) (bump (.se l .asksSent)
        (setTx { s.ohl.tx with ask := s.ohl.tx.ask.set l (some ⟨a.target, a.urgency, a.toggle⟩) }
          (setIn l
            { s.inCtx l with ask := some { a with retries := a.retries - 1, timer := s.params.responseTime } } s))))) ∧
    (∀ a, (s.inCtx l).ask = some a → a.timer ≤ 1 → Share.response l ∉ s.shares → a.busy = false → a.retries = 0 →
      ∃ t, exec (.responseTimerExpiry l) s = .next t ∧ t.shares = .response l :: s.shares ∧
        EntersSteady l (s.inCtx l) s t ∧
        (s.counter (.se l .asksFailed) < 65535 →
          t.counter (.se l .asksFailed) = s.counter (.se l .asksFailed) + 1) ∧
        ((s.inCtx l).deferred = none → t = addShare (.response l)
          (setIn l { s.inCtx l with state := .steady, ask := none, awaited := none, holdReason := none }
            (bump (.se l .asksFailed) s)))) ∧
    (∀ a, (s.inCtx l).ask = some a → a.timer ≤ 1 → Share.response l ∉ s.shares → a.busy = true →
      exec (.busyWaitExpiry l) s = .next (addShare (.response l) (bump (.se l .asksSent)
        (setTx { s.ohl.tx with ask := s.ohl.tx.ask.set l (some ⟨a.target, a.urgency, !(s.inCtx l).toggle⟩) }
          (setIn l { s.inCtx l with
            state := .asking, toggle := !(s.inCtx l).toggle, upHold := 0
            ask := some ⟨a.target, a.urgency, !(s.inCtx l).toggle, a.retries, s.params.responseTime, false⟩ } s))))) ∧
    (∀ w n, (s.inCtx l).awaited = some w → w.tagTimer = some n → n ≤ 1 → Share.tag l ∉ s.shares →
      ∃ t, exec (.tagTimerExpiry l) s = .next t ∧ EntersSteady l (s.inCtx l) s t ∧
        (t.shares = .tag l :: s.shares ∨
          ((t.inCtx l).ask.isSome = true ∧ t.shares = .response l :: .tag l :: s.shares)) ∧
        (s.counter (.se l .unanchoredGrants) < 65535 →
          t.counter (.se l .unanchoredGrants) = s.counter (.se l .unanchoredGrants) + 1) ∧
        ((s.inCtx l).deferred = none → t = addShare (.tag l)
          (setIn l { s.inCtx l with state := .steady, ask := none, awaited := none, holdReason := none }
            (bump (.se l .unanchoredGrants) s)))) ∧
    ((s.inCtx l).ask.all (fun a => decide (1 < a.timer)) = true ∨ Share.response l ∈ s.shares →
      exec (.responseTimerExpiry l) s = .next s ∧ exec (.busyWaitExpiry l) s = .next s) ∧
    (∀ a, (s.inCtx l).ask = some a → (a.busy = true → exec (.responseTimerExpiry l) s = .next s) ∧
      (a.busy = false → exec (.busyWaitExpiry l) s = .next s)) ∧
    ((s.inCtx l).awaited.all (fun w => w.tagTimer.all fun n => decide (1 < n)) = true ∨ Share.tag l ∈ s.shares →
      exec (.tagTimerExpiry l) s = .next s)

/-- The outstanding offer at a start event, and when its expiry is taken by itself: the timer counts down, the same
FLIP-OFFER is handed over again while retries are left, and after them the offer ends UNANSWERED. Three clauses are the
model's choice: that a repeated offer still stands in its slot after SUPERFRAME START, whose segment is drawn ahead of
the timers (log 2), the shares, with OFFER TIMER EXPIRY as a command of its own (log 3), and that a timer at 0 runs out
like one at 1 (log 22). -/
def Obligations.OfferTimerRepeatsThenEnds : Prop :=
  ∀ s o t, s.se.flip.offer = some o →
    ((exec .superframeStart s = .next t ∧ Share.offer ∉ s.shares) ∨
      (exec .offerTimerExpiry s = .next t ∧ o.timer ≤ 1 ∧ Share.offer ∉ s.shares)) →
    (1 < o.timer → t.se.flip.offer = some { o with timer := o.timer - 1 }) ∧
    (o.timer ≤ 1 → 0 < o.retries →
      t.se.flip.offer = some { o with retries := o.retries - 1, timer := s.params.responseTime } ∧
      t.ohl.tx.flipOffer = some ⟨o.toggle, o.digest, o.epoch, s.params.stationId⟩ ∧
      t.se.flip.lastOutcome = s.se.flip.lastOutcome) ∧
    (o.timer ≤ 1 → o.retries = 0 →
      t.se.flip.offer = none ∧ t.pst.status = .verified ∧ t.se.flip.lastOutcome = some .unanswered ∧
      t.flagSet .flipFailed = true)

/-- BEACON TIMER EXPIRY restarts the timer and leaves a BEACON in its slot; OFFER TIMER EXPIRY repeats the offer or ends
it. Either changes nothing when its timer does not run out at the start event that is arriving, or has taken its
share of it. The shares, and that an offer timer at 0 runs out like one at 1, are the model's choice (logs 3 and 22). -/
def Obligations.BeaconAndOfferTimersExpire : Prop :=
  ∀ s, exec .beaconTimerExpiry s = .next
      (if s.params.beaconPeriod ≤ s.ohl.beacon + 1 ∧ Share.beacon ∉ s.shares then
        { s with
          ohl := { s.ohl with beacon := 0, tx := { s.ohl.tx with beacon := true } }
          shares := .beacon :: s.shares }
      else s) ∧
    exec .offerTimerExpiry s = .next (match s.se.flip.offer with
    | none => s
    | some o =>
      if 1 < o.timer ∨ Share.offer ∈ s.shares then s
      else if 0 < o.retries then
        { s with
          se := { s.se with flip := { s.se.flip with
            offer := some { o with retries := o.retries - 1, timer := s.params.responseTime } } }
          ohl := { s.ohl with tx := { s.ohl.tx with
            flipOffer := some ⟨o.toggle, o.digest, o.epoch, s.params.stationId⟩ } }
          shares := .offer :: s.shares }
      else
        { s with
          se := { s.se with flip := { s.se.flip with offer := none, lastOutcome := some .unanswered } }
          pst := { s.pst with status := .verified }
          mgp := { s.mgp with flags := s.mgp.flags ||| BitVec.twoPow 12 4 }
          shares := .offer :: s.shares })

/-- SECOND LATCH: the record being built, with the plan word of the superframe about to start, joins the ring as its
newest, RECORD-READY is raised and the next record begins with the next sequence number. When the
second does not end, nothing changes (log 3). -/
def Obligations.SecondLatchJoinsRing : Prop :=
  (∀ s, s.prc.second + 1 < s.params.secondLength ∨ Share.second ∈ s.shares → exec .secondLatch s = .next s) ∧
  ∀ s, s.params.secondLength ≤ s.prc.second + 1 → Share.second ∉ s.shares →
    ∃ t r, exec .secondLatch s = .next t ∧ t.prc.ring = (r :: s.prc.ring).take 64 ∧
      r = { s.prc.building with lanes := r.lanes } ∧
      (∀ l, r.lanes.get l = (s.prc.building.lanes.get l).withPlan (s.mdp.history.next.lane l)) ∧
      t.prc.building.sequence = s.prc.building.sequence + 1 ∧ t.prc.building.lockLost = false ∧
      t.prc.building.peerSilent = s.se.peerSilent ∧ t.prc.building.flipCompleted = false ∧
      (∀ l, t.prc.building.lanes.get l =
        { worstGrade := (s.grader l).grade, bestGrade := (s.grader l).grade, correctedTotal := 0
          uncorrectedTotal := 0, unlocked := 0, lowestIn := (s.mdp.history.next.lane l).inProfile
          lowestOut := (s.mdp.history.next.lane l).outProfile, endIn := (s.mdp.history.next.lane l).inProfile
          enabledAtEnd := (s.mdp.history.next.lane l).enabled, switches := 0, fastDrops := 0
          worstFarMargin := none }) ∧
      t.prc.second = 0 ∧ t.mgp.flags = s.mgp.flags ||| BitVec.twoPow 12 10 ∧ t.shares = .second :: s.shares ∧
      t.prc.counters = s.prc.counters ∧ t.prc.histogram = s.prc.histogram ∧ t.mdp = s.mdp ∧ t.qg = s.qg ∧
      t.pst = s.pst ∧ t.se = s.se ∧ t.ohl = s.ohl ∧ t.sws = s.sws ∧ t.cal = s.cal ∧ t.trp = s.trp ∧
      t.mgp.params = s.mgp.params ∧ t.modemOut = s.modemOut ∧ t.pending = s.pending

/-! ## Quality reports -/

/-- QUALITY REPORT, in the order of its classification: a malformed report, a disabled lane, a future, a stale and a
duplicate report have no effect but their count, and an accepted one is marked as taken and reaches the grader. -/
def Obligations.ReportsAreClassified : Prop :=
  ∀ s r, ∃ t, exec (.qualityReport r) s = .next t ∧
    t.sfn = s.sfn ∧ t.mdp.history = s.mdp.history ∧ t.mdp.enabled = s.mdp.enabled ∧
    (if (r.locked = true ∧ r.tag = none) ∨ s.enabled r.lane = false then t = s
     else if r.sfn = s.sfn ∨ liesAhead s.sfn r.sfn = true then t = bump (.mdp .future) s
     else if distance r.sfn s.sfn ≠ 1 ∧ distance r.sfn s.sfn ≠ 2 then t = bump (.mdp .stale) s
     else
      let age : ReportAge := if distance r.sfn s.sfn = 1 then .oneAgo else .twoAgo
      if ((s.mdp.history.at age).lane r.lane).enabled = false then t = s
      else if ((s.mdp.taken.get r.lane).get r.branch).at age = true then t = bump (.mdp .duplicate) s
      else
        (t.mdp.taken.get r.lane).get r.branch = ((s.mdp.taken.get r.lane).get r.branch).marked age ∧
        ((t.grader r.lane).branches.get r.branch).latestLock = r.locked ∧
        (∀ l b, l ≠ r.lane ∨ b ≠ r.branch → (t.mdp.taken.get l).get b = (s.mdp.taken.get l).get b) ∧
        (∀ l, l ≠ r.lane → t.grader l = s.grader l ∧ t.inCtx l = s.inCtx l) ∧
        t.se.outCtx = s.se.outCtx ∧ t.pst = s.pst ∧ t.ohl.lock = s.ohl.lock ∧ t.ohl.deframer = s.ohl.deframer ∧
        t.ohl.silence = s.ohl.silence ∧ t.mgp.params = s.mgp.params ∧ t.mgp.laneParams = s.mgp.laneParams ∧
        t.mgp.response = s.mgp.response ∧ t.prc.ring = s.prc.ring ∧ t.prc.histogram = s.prc.histogram ∧
        t.modemOut = s.modemOut ∧ t.shares = s.shares ∧ t.pending = s.pending)

/-- An unlocked report of the branch that its superframe's plan word selected: the grade falls to 0, the window
restarts, in AUTO the selection moves to the other branch when that one is locked, the seconds record takes the grade,
an unlocked superframe and a fast drop, and the lane's In context, its tag run broken, takes an urgent grade update. That
the update clears the up-hold counter also when no rule of R76 applies is the model's reading, by R78 (log 23). -/
def Obligations.LockLossTakesGradeToZero : Prop :=
  ∀ s r age, classify s r = .accepted age → r.locked = false →
    r.branch = ((s.mdp.history.at age).lane r.lane).branch →
    ∃ t, exec (.qualityReport r) s = .next t ∧
      (t.grader r.lane).grade = 0 ∧ (t.grader r.lane).worst = 0 ∧ (t.grader r.lane).selectedLock = false ∧
      (let b := (t.grader r.lane).branches.get r.branch
       let b0 := (s.grader r.lane).branches.get r.branch
       b.count = 0 ∧ b.sum = 0 ∧ b.uncorrected = 0 ∧ b.latestLock = false ∧ b.lastMetric = b0.lastMetric) ∧
      (s.counter (.se r.lane .fastDrops) < 65535 →
        t.counter (.se r.lane .fastDrops) = s.counter (.se r.lane .fastDrops) + 1) ∧
      (let x := s.prc.building.lanes.get r.lane
       let y := t.prc.building.lanes.get r.lane
       y = { x with worstGrade := 0, unlocked := y.unlocked, fastDrops := min 65535 (x.fastDrops + 1) } ∧
       (x.unlocked < 4000 → y.unlocked = x.unlocked + 1) ∧
       t.prc.building = { s.prc.building with lanes := s.prc.building.lanes.set r.lane y }) ∧
      ((s.laneParams r.lane).branchMode = .auto →
        (if (s.grader r.lane).selected = r.branch ∧
            ((s.grader r.lane).branches.get (otherBranch r.branch)).latestLock = true then
          (t.grader r.lane).selected = otherBranch r.branch ∧
            (t.grader r.lane).hold = (s.laneParams r.lane).branchHold
        else (t.grader r.lane).selected = (s.grader r.lane).selected ∧
          (t.grader r.lane).hold = (s.grader r.lane).hold)) ∧
      (let v := setIn r.lane { s.inCtx r.lane with tagRun := none } s
       TakesUpdate r.lane .lockLoss v t) ∧
      t.inCtx (otherLane r.lane) = s.inCtx (otherLane r.lane) ∧ (∀ d l, t.liveProfile d l = s.liveProfile d l) ∧
      t.sws = s.sws ∧ t.cal = s.cal ∧ t.trp = s.trp ∧ t.pst = s.pst ∧ t.se.outCtx = s.se.outCtx ∧
      t.se.flip = s.se.flip

/-- A locked report of the selected branch whose MSE code passes the threshold of the grade by more than the margin
takes the grade at once to that of its own code, which is lower, and restarts the window; the seconds record takes the
grade, the report's counts and a fast drop; behind the tag follow, the lane's In context takes an urgent grade update.
That the update clears the up-hold counter also when no rule of R76 applies is the model's reading, by R78 (log 23). -/
def Obligations.FastDropTakesInstantGrade : Prop :=
  ∀ s r age threshold, classify s r = .accepted age → r.locked = true →
    r.branch = ((s.mdp.history.at age).lane r.lane).branch →
    thresholdAt (s.laneParams r.lane).thresholds (s.grader r.lane).grade = some threshold →
    threshold + (s.laneParams r.lane).fastDropMargin < r.mse.toNat →
    (s.laneParams r.lane).InRange →
    ∃ t, exec (.qualityReport r) s = .next t ∧
      (t.grader r.lane).grade = (s.laneParams r.lane).thresholds.toList.countP (fun x => decide (r.mse.toNat ≤ x)) ∧
      (t.grader r.lane).grade < (s.grader r.lane).grade ∧
      (t.grader r.lane).worst = min (s.grader r.lane).worst (t.grader r.lane).grade ∧
      (t.grader r.lane).selectedLock = true ∧
      (let b := (t.grader r.lane).branches.get r.branch
       b.count = 0 ∧ b.sum = 0 ∧ b.uncorrected = 0 ∧ b.latestLock = true ∧
       b.lastMetric = ((s.grader r.lane).branches.get r.branch).lastMetric) ∧
      (s.counter (.se r.lane .fastDrops) < 65535 →
        t.counter (.se r.lane .fastDrops) = s.counter (.se r.lane .fastDrops) + 1) ∧
      (let x := s.prc.building.lanes.get r.lane
       let y := { x with
          worstGrade := min x.worstGrade (t.grader r.lane).grade, bestGrade := max x.bestGrade (t.grader r.lane).grade
          correctedTotal := min 4294967295 (x.correctedTotal + r.corrected.toNat)
          uncorrectedTotal := min 65535 (x.uncorrectedTotal + r.uncorrected.toNat)
          fastDrops := min 65535 (x.fastDrops + 1) }
       t.prc.building = { s.prc.building with lanes := s.prc.building.lanes.set r.lane y }) ∧
      (let v := tagInput r.lane r.tag ((s.mdp.history.at age).lane r.lane).inProfile s
       TakesUpdate r.lane .fastDrop v t) ∧
      t.inCtx (otherLane r.lane) = s.inCtx (otherLane r.lane) ∧ t.pst = s.pst ∧
      t.se.outCtx = s.se.outCtx ∧ t.se.flip = s.se.flip

/-- A locked report of the selected branch that no single-report check takes joins the open window; when it fills
the window, the mean, the adjusted metric and the grade with its hysteresis follow, behind the tag follow the lane's
In context takes a grade update, and in AUTO the margin check and the hold counter follow. The seconds record takes the
report's counts, and the grade when the window is full. -/
def Obligations.SelectedReportFillsWindow : Prop :=
  ∀ s r age, classify s r = .accepted age → r.locked = true →
    r.branch = ((s.mdp.history.at age).lane r.lane).branch →
    fastDropFires s r.lane r.mse.toNat = false →
    ∃ t, exec (.qualityReport r) s = .next t ∧
      (let p := s.laneParams r.lane
       let g := s.grader r.lane
       let b := g.branches.get r.branch
       let sum := b.sum + r.mse.toNat
       let errors := b.uncorrected + r.uncorrected.toNat
       let metric := min 1023 ((sum + p.window / 2) / p.window + p.penalty * errors)
       let steady := p.thresholds.toList.countP fun x => decide (metric ≤ x)
       let rising := p.thresholds.toList.countP fun x => decide (metric + p.hysteresis ≤ x)
       let v := tagInput r.lane r.tag ((s.mdp.history.at age).lane r.lane).inProfile s
       if b.count + 1 < p.window then
        (t.grader r.lane).branches.get r.branch =
          { b with sum := sum, uncorrected := errors, count := b.count + 1, latestLock := true } ∧
        (t.grader r.lane).grade = g.grade ∧ (t.grader r.lane).worst = g.worst ∧
        Stays r.lane (v.inCtx r.lane) v t
       else
        (t.grader r.lane).branches.get r.branch =
          { b with sum := 0, uncorrected := 0, count := 0, latestLock := true, lastMetric := some metric } ∧
        (t.grader r.lane).grade = (if steady ≤ g.grade then steady else max g.grade rising) ∧
        (t.grader r.lane).worst = min g.worst (t.grader r.lane).grade ∧
        TakesUpdate r.lane .windowClose v t ∧
        (p.branchMode = .auto →
          if g.selected = r.branch ∧ g.hold = 0 ∧ (g.branches.get (otherBranch r.branch)).lastMetric.any
              (fun x => decide (x < metric ∧ p.branchMargin ≤ metric - x)) = true then
            (t.grader r.lane).selected = otherBranch r.branch ∧ (t.grader r.lane).hold = p.branchHold
          else (t.grader r.lane).selected = g.selected ∧ (t.grader r.lane).hold = g.hold - 1)) ∧
      (let x := s.prc.building.lanes.get r.lane
       let closed := decide ((s.laneParams r.lane).window ≤ ((s.grader r.lane).branches.get r.branch).count + 1)
       let y := { x with
          worstGrade := if closed then min x.worstGrade (t.grader r.lane).grade else x.worstGrade
          bestGrade := if closed then max x.bestGrade (t.grader r.lane).grade else x.bestGrade
          correctedTotal := min 4294967295 (x.correctedTotal + r.corrected.toNat)
          uncorrectedTotal := min 65535 (x.uncorrectedTotal + r.uncorrected.toNat) }
       t.prc.building = { s.prc.building with lanes := s.prc.building.lanes.set r.lane y }) ∧
      t.inCtx (otherLane r.lane) = s.inCtx (otherLane r.lane) ∧ (t.grader r.lane).selectedLock = true ∧
      t.pst = s.pst ∧ t.se.outCtx = s.se.outCtx ∧ t.se.flip = s.se.flip

/-- A report of a branch that its superframe's plan word did not select fills its own window and reaches nothing
else, unless a fixed branch mode takes the selection to its branch at the report. -/
def Obligations.OtherBranchOnlyFillsItsWindow : Prop :=
  (∀ s r age, classify s r = .accepted age → r.branch ≠ ((s.mdp.history.at age).lane r.lane).branch →
    (∀ x, (s.laneParams r.lane).branchMode.fixed = some x →
      (s.grader r.lane).selected = x ∨ ((s.mdp.history.at age).lane r.lane).branch = x) →
    ∃ t, exec (.qualityReport r) s = .next t ∧
      (let p := s.laneParams r.lane
       let b := (s.grader r.lane).branches.get r.branch
       let sum := b.sum + (if r.locked then r.mse.toNat else 1023)
       let errors := b.uncorrected + (if r.locked then r.uncorrected.toNat else 15)
       (∀ l, l ≠ r.lane → t.grader l = s.grader l) ∧
       t.grader r.lane = { s.grader r.lane with branches := (t.grader r.lane).branches } ∧
       (∀ x, x ≠ r.branch → (t.grader r.lane).branches.get x = (s.grader r.lane).branches.get x) ∧
       (t.grader r.lane).branches.get r.branch =
        (if b.count + 1 < p.window then
          { b with sum := sum, uncorrected := errors, count := b.count + 1, latestLock := r.locked }
        else
          { b with
            sum := 0, uncorrected := 0, count := 0, latestLock := r.locked,
            lastMetric := some (min 1023 ((sum + p.window / 2) / p.window + p.penalty * errors)) })) ∧
      t.se = s.se ∧ t.prc = s.prc ∧ t.pst = s.pst ∧ t.ohl = s.ohl ∧ t.sws = s.sws ∧ t.cal = s.cal ∧
      t.trp = s.trp ∧ t.mgp = s.mgp ∧ t.modemOut = s.modemOut ∧ t.pending = s.pending) ∧
  ∀ s r age x, classify s r = .accepted age → (s.laneParams r.lane).branchMode.fixed = some x →
    ∃ t, exec (.qualityReport r) s = .next t ∧
      (t.grader r.lane).selected =
        if ((s.mdp.history.at age).lane r.lane).branch = x then (s.grader r.lane).selected else x

/-- The tag run of a lane after a locked report of its selected branch: broken by a tag that the plan or the context
already holds, begun by another tag, and completed by the second of the same tag. One that is invalid in the live bank
is counted once as a bank divergence. A valid one is adopted: p_in is the tag, the uncommitted In entry leaves with its
withdrawal, the live IN map follows with SWITCHED IN, an exchange ends, counted as a divergence unless it was for the
tag, and a context that enters STEADY takes its deferred decision, while HELD and SILENT stay. What the report does
behind the tag follow is said of the same state by the statements about the grader. -/
def Obligations.TagFollowRunsAndAdopts : Prop :=
  ∀ s r age tag, classify s r = .accepted age → r.locked = true → r.tag = some tag →
    r.branch = ((s.mdp.history.at age).lane r.lane).branch →
    ∃ t, exec (.qualityReport r) s = .next t ∧
      (let plan := ((s.mdp.history.at age).lane r.lane).inProfile
       let c := s.inCtx r.lane
       let d := t.inCtx r.lane
       let v := tagInput r.lane r.tag plan s
       let untouched : Prop := t.sws = s.sws ∧ t.cal = s.cal ∧ t.trp = s.trp ∧
        t.counter (.se r.lane .divergences) = s.counter (.se r.lane .divergences)
       let uncounted : Prop := t.counter (.se r.lane .bankDivergences) = s.counter (.se r.lane .bankDivergences)
       (fastDropFires s r.lane r.mse.toNat = false →
        ((s.grader r.lane).branches.get r.branch).count + 1 < (s.laneParams r.lane).window →
        Stays r.lane (v.inCtx r.lane) v t) ∧
       if tag = plan ∨ tag = c.pIn then
        d.tagRun = none ∧ d.pIn = c.pIn ∧ Stays r.lane { c with tagRun := none } s v ∧ untouched ∧ uncounted
       else if c.tagRun = some ⟨tag, 1⟩ then
        if s.liveBank.valid tag = true then
          let x := { c with pIn := tag, upHold := 0, tagRun := none, ask := none, awaited := none }
          let sought : Bool :=
            (c.state == .asking && c.ask.any fun a => a.target == tag) ||
            ((c.state == .awaiting || c.state == .awaitingTag) && c.awaited.any fun a => a.target == tag)
          let dropped := (s.entryOf .inbound r.lane).filter fun e => !e.committed
          d.tagRun = none ∧ d.pIn = tag ∧
          (if c.state = .held ∨ c.state = .silent then Stays r.lane x s v
          else if c.state = .steady then Stays r.lane { x with holdReason := none } s v
          else EntersSteady r.lane x s v) ∧
          t.entryOf .inbound r.lane = (s.entryOf .inbound r.lane).filter Entry.committed ∧
          (∀ o, o ≠ .context .inbound r.lane → t.entry o = s.entry o) ∧
          t.cal = { s.cal with live := { s.cal.live with inbound := liveMapOf t .inbound } } ∧
          (s.trp.Quiet → t.trp = s.trp.handAll
            ((dropped.toList.flatMap fun e => t.withdrawalNotices .inbound e.epoch) ++
              [.switched .inbound s.sfn t.cal.live.inbound])) ∧
          (if sought then t.counter (.se r.lane .divergences) = s.counter (.se r.lane .divergences) ∧
            t.flagSet .divergence = s.flagSet .divergence
          else t.flagSet .divergence = true ∧ (s.counter (.se r.lane .divergences) < 65535 →
            t.counter (.se r.lane .divergences) = s.counter (.se r.lane .divergences) + 1)) ∧ uncounted
        else d.tagRun = some ⟨tag, 2⟩ ∧ d.pIn = c.pIn ∧ Stays r.lane { c with tagRun := some ⟨tag, 2⟩ } s v ∧
          untouched ∧ (s.counter (.se r.lane .bankDivergences) < 65535 →
            t.counter (.se r.lane .bankDivergences) = s.counter (.se r.lane .bankDivergences) + 1)
       else if c.tagRun.map TagRun.tag = some tag then
        d.tagRun = c.tagRun ∧ d.pIn = c.pIn ∧ Stays r.lane c s v ∧ untouched ∧ uncounted
       else d.tagRun = some ⟨tag, 1⟩ ∧ d.pIn = c.pIn ∧ Stays r.lane { c with tagRun := some ⟨tag, 1⟩ } s v ∧
        untouched ∧ uncounted) ∧
      t.pst = s.pst ∧ t.se.outCtx = s.se.outCtx ∧ t.se.flip = s.se.flip ∧ t.ohl.lock = s.ohl.lock

/-! ## The overhead link -/

/-- OVERHEAD IN: a segment that is not valid ends the collection, counted as lost when it holds a bit. A valid one is
read bit by bit, by the run of ones before each bit: an eighth one aborts; a zero behind seven ends a flag, which closes
a collection as a candidate; any other zero resolves the run and itself into data, the stuffed one left out, and a
collection that reaches 98 bits is overlong. A candidate under 40 bits is a runt, and one of no whole number of bytes
misaligned. Whatever frames a valid segment closes, they reach nothing that no frame touches. That the ones of a run
stand in the deframer until the zero behind them is the model's choice (log 15), and so is that the run of an abort in
COLLECT goes on until its zero and no run begins at its ninth one (log 26). -/
def Obligations.OverheadInReachesTheDeframer : Prop :=
  (∀ s segment,
    exec (.overheadIn false segment) s = .next
      (if s.ohl.deframer.state = .collect ∧ s.ohl.deframer.collected ≠ [] then
        bump (.ohl .lost) (setDeframer .searching s)
      else setDeframer .searching s) ∧
    exec (.overheadIn true segment) s = .next ((segmentBits segment).foldl (takeBit s.sfn) s) ∧
    s.KeptByPeer ((segmentBits segment).foldl (takeBit s.sfn) s)) ∧
  (∀ s arrival bit, let d := s.ohl.deframer
    let held : Bool := d.state == .collect && !d.collected.isEmpty
    takeBit arrival s bit =
      if bit = true then
        if d.run < 7 then setDeframer { d with
          run := d.run + 1, runArrival := if d.run = 0 then some arrival else d.runArrival } s
        else
          let aborted := setDeframer { Deframer.searching with run := 8 } s
          if held then bump (.ohl .aborts) aborted else aborted
      else if d.run = 7 then
        if held then
          checkCandidate d.collected.dropLast (d.firstArrival.getD arrival) (setDeframer .collecting s)
        else setDeframer .collecting s
      else if d.state = .search then setDeframer .searching s
      else
        let more := d.collected ++ List.replicate d.run true ++ (if d.run = 6 then [] else [false])
        if more.length < 98 then setDeframer
          { state := .collect, collected := more, run := 0, runArrival := none
            firstArrival := some (d.firstArrival.getD (if d.run = 0 then arrival else d.runArrival.getD arrival)) } s
        else bump (.ohl .overlong) (setDeframer .searching s)) ∧
  ∀ bits arrival s, (bits.length < 40 → checkCandidate bits arrival s = bump (.ohl .runts) s) ∧
    (40 ≤ bits.length → bits.length % 8 ≠ 0 → checkCandidate bits arrival s = bump (.ohl .misaligned) s)

/-- Every frame of every kind is read back from its bytes. -/
def Obligations.FramesReadBackFromTheirBytes : Prop :=
  ∀ (f : Frame) stamp, readFrame (f.bytes stamp) = .good stamp f

/-- The check computation place by place, the check bytes of a sent frame, and the register's end at zero, which the
receiver requires. -/
def Obligations.CheckComputationAndResidue : Prop :=
  (∀ reg bit i, i < 16 → (checkBit reg bit).getLsbD i =
    ((decide (0 < i) && reg.getLsbD (i - 1)) ^^
      ((reg.getLsbD 15 ^^ bit) && (i == 0 || i == 2 || i == 15)))) ∧
  check [] = 0xFFFF ∧
  (∀ bs b, check (bs ++ [b]) = [b.getLsbD 7, b.getLsbD 6, b.getLsbD 5, b.getLsbD 4, b.getLsbD 3, b.getLsbD 2,
    b.getLsbD 1, b.getLsbD 0].foldl checkBit (check bs)) ∧
  (∀ b : Bank, bankDigest b = check (bankBytes b)) ∧
  (∀ (f : Frame) stamp, ∃ sent, sent = f.header :: wordBytes stamp ++ f.body ∧
    f.bytes stamp = sent ++ [(check sent).extractLsb' 8 8, (check sent).extractLsb' 0 8] ∧
    check (f.bytes stamp) = 0) ∧
  ∀ bits arrival s, 40 ≤ bits.length → bits.length % 8 = 0 →
    checkCandidate bits arrival s =
      if bits.foldl checkBit 0xFFFF#16 = 0 then
        (match readFrame (bitsBytes bits) with
          | .unknown => bump (.ohl .unknown) s
          | .malformed => bump (.ohl .malformed) s
          | .good stamp f => goodFrame ⟨stamp, arrival⟩ f s)
      else bump (.ohl .checkErrors) s

/-- What a draw takes. While the unit in progress outlasts the segment, its next 64 bits; else the rest of it and
behind that the picked frame, or idle flags when every slot is empty, from where the unit ends. The picked frame's
stamp is the segment's number when the header's first bit still falls into it, and else the next one. A pick empties
its slot and leaves the others; and the bits of a segment are the bits drawn. -/
def Obligations.DrawSendsFramesOrFlags : Prop :=
  (∀ bits : List Bool, bits.length = 64 → segmentBits (segmentOf bits) = bits) ∧
  (∀ s (t : Transmitter) x, slotFrame s (t.taking x) x = none ∧
    (∀ y, y ≠ x → slotFrame s (t.taking x) y = slotFrame s t y) ∧
    (t.taking x).lastLane = x.lane.getD t.lastLane ∧ (t.taking x).bits = t.bits ∧ (t.taking x).frame = t.frame) ∧
  ∀ s n, let tx := s.ohl.tx
    let k := tx.bits.length
    let flag := [true, true, true, true, true, true, true, false]
    let idle := (List.replicate 8 flag).flatten
    (64 < k → segmentBits (drawSegment s n).1 = tx.bits.take 64 ∧
      (drawSegment s n).2 = { tx with bits := tx.bits.drop 64 }) ∧
    (k = 64 → segmentBits (drawSegment s n).1 = tx.bits ∧
      (drawSegment s n).2 = { tx with bits := [], frame := none }) ∧
    (k < 64 → pickSlot s tx = none →
      segmentBits (drawSegment s n).1 = (tx.bits ++ idle).take 64 ∧
      (drawSegment s n).2 =
        { tx with bits := if (64 - k) % 8 = 0 then [] else flag.drop ((64 - k) % 8), frame := none }) ∧
    ∀ x f, k < 64 → pickSlot s tx = some (x, f) →
      (let sent := frameBits (f.bytes (if k + 8 < 64 then n else n + 1))
       segmentBits (drawSegment s n).1 = (tx.bits ++ sent).take 64 ∧
       (drawSegment s n).2 = { tx.taking x with bits := (tx.bits ++ sent).drop 64, frame := some x })

/-- The arbiter takes a message of the highest priority, in the lane pair the lane that its mode prefers, and nothing
only when every slot is empty. The frame that it builds is the message as handed over, an ASK with the live digest as it
stands, and a BEACON with the live digest and of each lane the Out profile, the pinned flag, the margin state and the
enabled flag, or the fixed values of a disabled lane. -/
def Obligations.ArbiterPicksByPriority : Prop :=
  ∀ s t,
    (∀ l, slotFrame s t (.reply l) = (t.reply.get l).map fun a =>
      match a.kind with
      | .grant e => .grant l a.toggle a.target e
      | .refuse why => .refuse l a.toggle a.target why) ∧
    slotFrame s t .flipAnswer = (t.flipAnswer.map fun a =>
      match a with
      | .agree toggle digest epoch => .flipAgree toggle digest epoch
      | .decline toggle why => .flipDecline toggle why) ∧
    (∀ l, slotFrame s t (.ask l) = (t.ask.get l).map fun m =>
      .ask l m.toggle (decide (m.urgency = .urgent)) m.target s.liveDigest) ∧
    slotFrame s t .flipOffer = (t.flipOffer.map fun m => .flipOffer m.toggle m.digest m.epoch m.station) ∧
    (∃ x0 x1, slotFrame s t .beacon = (if t.beacon then some (.beacon s.liveDigest x0 x1) else none) ∧
      ∀ l, let x : LaneStatus := match l with
          | .zero => x0
          | .one => x1
        if s.enabled l = true then
          x.outProfile = (s.outCtx l).pOut ∧ (x.outPinned = true ↔ (s.outCtx l).mode = .pinned) ∧
          IsMargin s l x.inMargin ∧ x.enabled = true
        else x = ⟨0, false, .failing, false⟩) ∧
    (pickSlot s t = none ↔ ∀ x, slotFrame s t x = none) ∧
    ∀ x f, pickSlot s t = some (x, f) → slotFrame s t x = some f ∧
      ∀ y, slotFrame s t y ≠ none → slotPriority t x ≤ slotPriority t y ∧
        (slotPriority t y = slotPriority t x → y = x ∨
          x.lane = some (match s.params.arbiter with
            | .fixed => .zero
            | .rotating => otherLane t.lastLane))

/-- A frame sent across two segments is taken by a deframer that stands between units: for every frame, stamp and
bits that follow it, the two OVERHEAD INs end as the good frame's effects and the bits after it do. -/
def Obligations.SentFramesAreReceived : Prop :=
  ∀ s (f : Frame) stamp first second rest,
    (s.ohl.deframer.state = .search ∨ s.ohl.deframer.collected = []) → s.ohl.deframer.run = 0 →
    segmentBits first ++ segmentBits second = frameBits (f.bytes stamp) ++ rest →
    ∃ t, exec (.overheadIn true first) s = .next t ∧
      exec (.overheadIn true second) t =
        .next (rest.foldl (takeBit s.sfn) (goodFrame ⟨stamp, s.sfn⟩ f (setDeframer .collecting s)))

/-! ## Frames from the peer -/

/-- What every good frame does before its contents are handled: the count, the silence timer, the recovery from a
silence with the settle of every Out context and a re-decision of every In context in SILENT, and the offset lock. That
a PINNED Out context is settled too is the model's reading of R84 (log 11). -/
def Obligations.GoodFrameIsHeardFirst : Prop :=
  ∀ s times, ∃ u, hearFrame times s = u ∧ s.KeptByPeer u ∧ u.pst = s.pst ∧ u.se.flip = s.se.flip ∧
    u.ohl.deframer = s.ohl.deframer ∧ u.ohl.far = s.ohl.far ∧ u.ohl.silence = 0 ∧ u.se.peerSilent = false ∧
    (s.counter (.ohl .good) < 65535 → u.counter (.ohl .good) = s.counter (.ohl .good) + 1) ∧
    (let offset := times.stamp - times.arrival
     let k := s.ohl.lock
     match k.state with
     | .hunt => u.ohl.lock = ⟨.confirm, some offset, k.mismatch⟩
     | .confirm => u.ohl.lock =
        if k.offset = some offset then ⟨.locked, k.offset, 0⟩ else ⟨.confirm, some offset, k.mismatch⟩
     | .locked =>
      if k.offset = some offset then u.ohl.lock = { k with mismatch := 0 }
      else if k.mismatch < 2 then u.ohl.lock = { k with mismatch := k.mismatch + 1 }
      else u.ohl.lock = ⟨.hunt, none, 0⟩ ∧ u.flagSet .lockLost = true ∧ u.prc.building.lockLost = true) ∧
    (s.se.peerSilent = false → u.se = s.se ∧ u.sws = s.sws ∧ u.trp = s.trp ∧ u.ohl.tx = s.ohl.tx) ∧
    (s.se.peerSilent = true → u.flagSet .peerHeard = true ∧ ∀ l,
      (if (s.inCtx l).state = .silent then ReDecides l .normal { s.inCtx l with state := .steady } s u
       else Stays l (s.inCtx l) s u) ∧
      (s.ScheduleShaped → 2 ≤ s.params.longLead → s.params.longLead ≤ 255 → 2 ≤ s.params.shortLead →
        s.params.shortLead ≤ 64 → Settled l s.sfn (s.entryOf .outbound l) u) ∧
      u.entryOf .inbound l = s.entryOf .inbound l ∧
      (u.inCtx l).state ≠ .silent ∧ (u.inCtx l).pIn = (s.inCtx l).pIn ∧
      (u.outCtx l).pOut = (s.outCtx l).pOut ∧ (u.outCtx l).pin = (s.outCtx l).pin ∧
      (u.outCtx l).mode = if (s.outCtx l).mode = .fallback then .adaptive else (s.outCtx l).mode)

/-- ASK, in the order of its checks: the first that applies gives the answer, which is stored and takes the lane's
reply slot; the last is a new switch at the lead of the ASK's urgency, whose insertion hands the traffic port the
withdrawal of the epoch it replaces and the forecast. -/
def Obligations.AskIsAnsweredInOrder : Prop :=
  ∀ s times l toggle urgent target digest, ∃ u t, u = hearFrame times s ∧
    exec (.ask times l toggle urgent target digest) s = .next t ∧
    (let c := u.outCtx l
     let given (a : Answer) := setTx { u.ohl.tx with reply := u.ohl.tx.reply.set l (some a) }
      (setOut l { c with lastAnswer := some a } u)
     let lead := if urgent then u.params.shortLead else u.params.longLead
     let epoch := sfnPlus u.sfn lead
     if u.enabled l = false then t = given ⟨toggle, target, .refuse .laneOff⟩
     else if digest ≠ u.liveDigest then t = given ⟨toggle, target, .refuse .bank⟩
     else if c.lastAnswer.any (fun a => a.toggle == toggle && a.target == target) = true then
      ∃ a, c.lastAnswer = some a ∧ t = given a
     else if c.mode = .pinned then t = given ⟨toggle, target, .refuse .pinned⟩
     else if ¬(u.liveBank.valid target = true ∧ inSet (u.mask l .outbound) target = true) then
      t = given ⟨toggle, target, .refuse .masked⟩
     else if (u.entryOf .outbound l).any Entry.committed = true then t = given ⟨toggle, target, .refuse .busy⟩
     else if target = c.pOut ∧ u.entryOf .outbound l = none then t = given ⟨toggle, target, .grant u.sfn⟩
     else if u.bankEpoch.any (fun f => notEarlier u.sfn epoch f) = true then
      t = given ⟨toggle, target, .refuse .flip⟩
     else
      (t.outCtx l).lastAnswer = some ⟨toggle, target, .grant epoch⟩ ∧
      t.ohl.tx = { u.ohl.tx with reply := u.ohl.tx.reply.set l (some ⟨toggle, target, .grant epoch⟩) } ∧
      (2 ≤ lead → lead ≤ 255 → (t.outCtx l).state = .scheduled ∧
        t.entryOf .outbound l = some ⟨.context .outbound l target, epoch, .grantOut, false⟩ ∧
        (u.trp.Quiet → t.trp = u.trp.handAll (t.insertionNotices .outbound (u.entryOf .outbound l) epoch))) ∧
      (∀ o, o ≠ .context .outbound l → t.entry o = u.entry o) ∧ (t.outCtx l).pOut = c.pOut ∧
      (t.outCtx l).mode = c.mode ∧ t.outCtx (otherLane l) = u.outCtx (otherLane l) ∧
      t.se.inCtx = u.se.inCtx ∧ t.se.flip = u.se.flip ∧ t.pst = u.pst ∧ u.KeptByPeer t)

/-- GRANT: one that does not match is stale; a matching one waits for the tag without the offset lock, is ignored
when wild, ends the exchange when fenced, waits for a committed In entry, and else places the In entry with its
withdrawal and forecast. That a late GRANT is counted as late also when it is then fenced or held off is the model's
choice (log 24). -/
def Obligations.GrantIsAnchored : Prop :=
  ∀ s times l toggle target epoch, ∃ u t, u = hearFrame times s ∧
    exec (.grant times l toggle target epoch) s = .next t ∧
    (let c := u.inCtx l
     if c.state = .asking ∧ c.ask.any (fun a => !a.busy && a.toggle == toggle && a.target == target) = true then
      (match (if u.ohl.lock.state = .locked then u.ohl.lock.offset else none) with
        | none => t = setIn l { c with
            state := .awaitingTag, ask := none, awaited := some ⟨target, some (2 * u.params.responseTime)⟩ } u
        | some o =>
          let e := epoch - o
          if ¬liesInTime u.sfn e = true ∧ ¬liesLate u.sfn e = true then t = bump (.se l .wildGrants) u
          else
            let place := if liesInTime u.sfn e = true then e else u.sfn + 2
            let v := if liesInTime u.sfn e = true then u else bump (.se l .lateGrants) u
            if u.bankEpoch.any (fun f => notEarlier u.sfn place f) = true then
              (c.deferred = none → t = setIn l { c with
                state := .steady, ask := none, awaited := none, holdReason := none } v) ∧
              EntersSteady l c v t ∧ t.sws = u.sws ∧ t.trp = u.trp
            else if (u.entryOf .inbound l).any Entry.committed = true then t = bump (.se l .staleGrants) v
            else
              t.inCtx l = { c with state := .awaiting, ask := none, awaited := some ⟨target, none⟩ } ∧
              t.entryOf .inbound l = some ⟨.context .inbound l target, place, .grantIn, false⟩ ∧
              (∀ x, x ≠ .context .inbound l → t.entry x = u.entry x) ∧
              (u.trp.Quiet → t.trp = u.trp.handAll (t.insertionNotices .inbound (u.entryOf .inbound l) place)) ∧
              t.ohl.tx = u.ohl.tx ∧
              t.inCtx (otherLane l) = u.inCtx (otherLane l) ∧ t.prc.counters = v.prc.counters)
     else t = bump (.se l .staleGrants) u) ∧
    t.se.outCtx = u.se.outCtx ∧ t.se.flip = u.se.flip ∧ t.pst = u.pst ∧ t.ohl.lock = u.ohl.lock ∧ u.KeptByPeer t

/-- REFUSE: one that does not match changes nothing more; a matching one acts by its reason. A MASKED one adds the
target to the refused set, maintains the pin and takes a re-decision; the pin maintained ahead of that one re-decision
is the model's reading of R87 (log 12). -/
def Obligations.RefuseActsByReason : Prop :=
  ∀ s times l toggle target reason, ∃ u t, u = hearFrame times s ∧
    exec (.refuse times l toggle target reason) s = .next t ∧
    (let c := u.inCtx l
     match (if c.state = .asking then
        c.ask.filter (fun a => !a.busy && a.toggle == toggle && a.target == target) else none), reason with
      | none, _ => t = u
      | some _, .pinned => t = setIn l { c with state := .held, ask := none, holdReason := some .pinned } u
      | some _, .bank => t = setIn l { c with state := .held, ask := none, holdReason := some .bank } u
      | some _, .flip => (c.deferred = none → t = setIn l { c with
          state := .steady, ask := none, awaited := none, holdReason := none } u) ∧ EntersSteady l c u t
      | some _, .laneOff => t = setIn l { c with
          state := .steady, ask := none, awaited := none, holdReason := none, farLaneOff := true } u
      | some a, .busy => t = setIn l { c with ask := some { a with timer := 2, busy := true } } u
      | some a, .masked =>
        (t.inCtx l).refused = (if target = 0 then c.refused else c.refused ||| BitVec.twoPow 16 target) ∧
        Maintained .inbound l c.pin (t.inCtx l).pin t ∧
        ReDecides l a.urgency { c with
          state := .steady, ask := none, refused := (t.inCtx l).refused, pin := (t.inCtx l).pin } u t) ∧
    (t.inCtx l).pIn = (u.inCtx l).pIn ∧ t.inCtx (otherLane l) = u.inCtx (otherLane l) ∧
    t.se.outCtx = u.se.outCtx ∧ t.se.flip = u.se.flip ∧ t.pst = u.pst ∧ t.sws = u.sws ∧ t.trp = u.trp ∧
    t.ohl.lock = u.ohl.lock ∧ u.KeptByPeer t

/-- BEACON: the far status, the worst far margin of the seconds record, in the order FAILING, THIN, FAIR, GOOD, the far
report, LANE-MISMATCH and the divergence count, and the ends of HELD and of far lane off that it brings, with the
re-decision that follows either. -/
def Obligations.BeaconUpdatesFarView : Prop :=
  ∀ s times digest x0 x1, ∃ u t, u = hearFrame times s ∧ exec (.beacon times digest x0 x1) s = .next t ∧
    (∀ l, let x : LaneStatus := match l with
        | .zero => x0
        | .one => x1
      t.ohl.far.get l = some ⟨x.inMargin, x.enabled⟩ ∧
      (let old := u.prc.building.lanes.get l
       ∃ m, t.prc.building.lanes.get l = { old with worstFarMargin := some m } ∧
        marginCode m = min ((old.worstFarMargin.map marginCode).getD (marginCode x.inMargin)) (marginCode x.inMargin)) ∧
      (t.inCtx l).farReport = some ⟨x.outProfile, x.outPinned⟩ ∧ (t.inCtx l).pIn = (u.inCtx l).pIn ∧
      (t.inCtx l).farLaneOff = ((u.inCtx l).farLaneOff && !x.enabled) ∧
      (let c : InContext := { u.inCtx l with
        farReport := some ⟨x.outProfile, x.outPinned⟩
        farLaneOff := (u.inCtx l).farLaneOff && !x.enabled }
       if c.state = .held ∧ (c.holdReason = some .pinned ∧ x.outPinned = false ∨
          c.holdReason = some .bank ∧ digest = u.liveDigest) then
        ReDecides l .normal { c with state := .steady, holdReason := none } u t
       else if (u.inCtx l).farLaneOff = true ∧ x.enabled = true ∧ c.state = .steady ∧ c.deferred.isSome = true then
        ReDecides l .normal c u t
       else Stays l c u t) ∧
      ((u.inCtx l).state = .held → (u.inCtx l).holdReason = some .pinned → x.outPinned = true →
        (t.inCtx l).state = .held) ∧
      ((u.inCtx l).state = .held → (u.inCtx l).holdReason = some .pinned → x.outPinned = false →
        (t.inCtx l).state ≠ .held) ∧
      ((u.inCtx l).state = .held → (u.inCtx l).holdReason = some .bank → digest ≠ u.liveDigest →
        (t.inCtx l).state = .held) ∧
      ((u.inCtx l).state = .held → (u.inCtx l).holdReason = some .bank → digest = u.liveDigest →
        (t.inCtx l).state ≠ .held)) ∧
    (t.flagSet .laneMismatch = true ↔ u.flagSet .laneMismatch = true ∨ x0.enabled ≠ u.enabled .zero ∨
      x1.enabled ≠ u.enabled .one) ∧
    (t.se.flip = { u.se.flip with divergence :=
      if digest = u.liveDigest then 0 else if u.se.flip.divergence < 3 then u.se.flip.divergence + 1
      else u.se.flip.divergence }) ∧
    (t.flagSet .bankDiverged = true ↔ u.flagSet .bankDiverged = true ∨
      (digest ≠ u.liveDigest ∧ u.se.flip.divergence = 2)) ∧
    t.se.outCtx = u.se.outCtx ∧ t.pst = u.pst ∧ t.sws = u.sws ∧ t.trp = u.trp ∧ t.ohl.lock = u.ohl.lock ∧
    u.KeptByPeer t

/-- FLIP OFFER, in the order of its checks: a duplicate, a crossing, the declines, and the agreement with its BANK
entry and fence, whose removed entries are withdrawn and whose owners are told. -/
def Obligations.FlipOfferIsAnsweredInOrder : Prop :=
  ∀ s times toggle digest epoch station, ∃ u t, u = hearFrame times s ∧
    exec (.flipOffer times toggle digest epoch station) s = .next t ∧
    (let reply (m : FlipAnswer) (v : State) := setTx { v.ohl.tx with flipAnswer := some m } v
     let v := if u.pst.status = .offered then
        { u with
          se := { u.se with flip := { u.se.flip with offer := none, lastOutcome := some .withdrawn } }
          pst := { u.pst with status := .verified } }
      else u
     if u.se.flip.lastAgreement.any (fun a => a.toggle == toggle && a.digest == digest) = true then
      ∃ a, u.se.flip.lastAgreement = some a ∧ t = reply (.agree toggle a.digest a.epoch) u
     else if u.pst.status = .offered ∧ u.params.stationId.toNat ≤ station.toNat then
      t = reply (.decline toggle .clash) u
     else if v.pst.status = .editing then t = reply (.decline toggle .notReady) v
     else if digest ≠ v.stagedDigest then t = reply (.decline toggle .digest) v
     else if v.pst.status = .agreed then t = reply (.decline toggle .pending) v
     else
      match (if u.ohl.lock.state = .locked then u.ohl.lock.offset else none) with
      | none => t = reply (.decline toggle .epoch) v
      | some o =>
        if ¬liesInTime u.sfn (epoch - o) = true then t = reply (.decline toggle .epoch) v
        else
          t.pst.status = .agreed ∧ t.se.flip = { v.se.flip with lastAgreement := some ⟨toggle, digest, epoch⟩ } ∧
          t.ohl.tx.flipAnswer = some (.agree toggle digest epoch) ∧
          (u.entry .bank = none → Fenced (epoch - o) u t) ∧
          ∀ d l, t.liveProfile d l = u.liveProfile d l) ∧
    t.ohl.lock = u.ohl.lock ∧ u.KeptByPeer t

/-- FLIP AGREE: one that does not match the outstanding offer, or whose epoch is far, changes nothing more; else the
BANK entry stands at the offer's epoch, or two superframes ahead when that one comes too late, with its fence. -/
def Obligations.FlipAgreePlacesBankEntry : Prop :=
  ∀ s times toggle digest epoch, ∃ u t, u = hearFrame times s ∧
    exec (.flipAgree times toggle digest epoch) s = .next t ∧
    (if u.pst.status = .offered ∧ u.se.flip.offer.any (fun o =>
        o.toggle == toggle && o.digest == digest && o.epoch == epoch) = true ∧
        (liesInTime u.sfn epoch = true ∨ liesLate u.sfn epoch = true) then
      let place := if liesInTime u.sfn epoch = true then epoch else u.sfn + 2
      t.pst.status = .agreed ∧
      t.se.flip = { u.se.flip with offer := none, lastOutcome := some .agreed } ∧
      (u.entry .bank = none → Fenced place u t) ∧
      (∀ l, (t.outCtx l).pOut = (u.outCtx l).pOut ∧ (t.inCtx l).pIn = (u.inCtx l).pIn)
    else t = u) ∧
    t.ohl.lock = u.ohl.lock ∧ u.KeptByPeer t

/-- FLIP DECLINE: one whose toggle is that of the outstanding offer ends it; any other is ignored. -/
def Obligations.FlipDeclineEndsTheOffer : Prop :=
  ∀ s times toggle reason, ∃ u, u = hearFrame times s ∧
    exec (.flipDecline times toggle reason) s = .next
      (if u.pst.status = .offered ∧ u.se.flip.offer.any (fun o => o.toggle == toggle) = true then
        { u with
          se := { u.se with flip := { u.se.flip with offer := none, lastOutcome := some (.declined reason) } }
          pst := { u.pst with status := .verified }
          mgp := { u.mgp with flags := u.mgp.flags ||| BitVec.twoPow 12 5 } }
      else u)

/-! ## Capacity and the traffic port -/

/-- The slots of a map are all given out: to classes or to IDLE. In allocation order, by priority and then by class
number, every class has its guarantee from what the classes before it leave. The slots left over go to a priority level
only when every class of the levels before it stands at its ceiling, and inside a level one at a time in turn: the
excess of two classes differs by at most one, the lower number first, unless one of them stands at its ceiling. The
runs stand in allocation order, IDLE last, and the flags are those of the shares. -/
def Obligations.AllocationDividesCapacity : Prop :=
  ∀ capacity split (cls : Vector ClassRecord 8),
    (∀ c : ClassNo, cls[c].priority ≤ 7 ∧ cls[c].guaranteed ≤ cls[c].ceiling) →
    let m := allocate capacity split cls
    let before (c d : ClassNo) : Bool :=
      decide (cls[c].priority < cls[d].priority) || (cls[c].priority == cls[d].priority && decide (c < d))
    let claimed (f : ClassNo → Bool) : Nat :=
      (classNumbers.map fun c => if cls[c].enabled && f c then cls[c].guaranteed else 0).sum
    let base (c : ClassNo) : Nat := min cls[c].guaranteed (capacity - claimed fun d => before d c)
    m.capacity = capacity ∧ m.laneSplit = split ∧ (m.runs.map Run.length).sum = capacity ∧
    (∀ r ∈ m.runs, 0 < r.length) ∧ (m.runs.map Run.cls).Nodup ∧
    (m.runs.Pairwise fun r q =>
      match r.cls, q.cls with
      | some c, some d => before c d = true
      | some _, none => True
      | none, _ => False) ∧
    (∀ c : ClassNo, m.share c ≤ (if cls[c].enabled then cls[c].ceiling else 0)) ∧
    (∀ c : ClassNo, cls[c].enabled = true → base c ≤ m.share c ∧
      (capacity ≤ claimed (fun _ => true) → m.share c = base c) ∧
      (claimed (fun _ => true) ≤ capacity → base c = cls[c].guaranteed)) ∧
    (∀ c d : ClassNo, cls[c].enabled = true → cls[d].enabled = true → cls[c].priority < cls[d].priority →
      base d < m.share d → m.share c = cls[c].ceiling) ∧
    (∀ c d : ClassNo, cls[c].enabled = true → cls[d].enabled = true → cls[c].priority = cls[d].priority → c < d →
      (m.share c < cls[c].ceiling → m.share d - base d ≤ m.share c - base c) ∧
      (m.share d < cls[d].ceiling → m.share c - base c ≤ m.share d - base d + 1)) ∧
    (⟨none, 0⟩ ∉ m.runs ∧ ((∃ r ∈ m.runs, r.cls = none) →
      ∀ c : ClassNo, cls[c].enabled = true → m.share c = cls[c].ceiling)) ∧
    ∀ c : ClassNo, m.shed.getLsbD c = (cls[c].enabled && m.share c == 0) ∧
      m.short.getLsbD c = (cls[c].enabled && decide (m.share c < cls[c].guaranteed))

/-- MAP QUERY, HOLD INPUT, RECORD COMPLETION and a notice handed over: the port begins the reply, then the RESYNC,
then the head notice, when the link is free and the hold input inactive; a notice joins the tail of the queue, or
empties a full one. That a RECORD COMPLETION with no record in transmission does the same is the model's reading of R169
and R172 (log 17). -/
def Obligations.TrafficPortSendsInOrder : Prop :=
  ∀ s, ∃ begun : Trp → Trp,
    (∀ p, begun p =
      if p.sending.isSome = true ∨ p.hold = true then p
      else match p.reply with
        | some d =>
          let built : MapReply :=
            { dir := d, sfn := s.sfn, map := s.cal.live.get d
              blocked := match d with
                | .inbound => none
                | .outbound => some s.cal.blocked
              queued := p.queue.length, resync := p.resync }
          { p with reply := none, sending := some (.mapReply built) }
        | none =>
          if p.resync = true then { p with resync := false, sending := some .resync }
          else match p.queue with
            | [] => p
            | n :: rest => { p with queue := rest, sending := some (.notice n) }) ∧
    (∀ direction, exec (.mapQuery direction) s = .next (match dirOf direction with
      | none => s
      | some d => { s with trp := begun { s.trp with reply := some d } })) ∧
    exec .recordCompletion s = .next { s with trp := begun { s.trp with sending := none } } ∧
    exec (.holdInput true) s = .next { s with trp := { s.trp with hold := true } } ∧
    exec (.holdInput false) s = .next (if s.trp.hold = true then
      { s with trp := begun { s.trp with hold := false } } else s) ∧
    ∀ n, handNotice n s =
      if s.trp.queue.length < 16 then { s with trp := begun { s.trp with queue := s.trp.queue ++ [n] } }
      else
        { s with
          trp := begun { s.trp with queue := [], resync := true }
          mgp := { s.mgp with flags := s.mgp.flags ||| BitVec.twoPow 12 9 } }

/-! ## Management: the plan -/

/-- READ NEXT returns the record under the cursor, for each of the four tables, and moves the cursor on by one; at
the end it is answered BAD-ARG. -/
def Obligations.ReadNextReturnsRecord : Prop :=
  ∀ s,
    let reads (d : ResponseData) : Prop := exec .readNext s = .next { s with mgp := { s.mgp with
      cursor := ⟨s.mgp.cursor.table, s.mgp.cursor.index + 1⟩, response := some ⟨.ok, d⟩ } }
    (∀ h : s.mgp.cursor.index < 16, s.mgp.cursor.table = .stagedLadder →
      reads (.profileRecord s.stagedBank.ladder[s.mgp.cursor.index])) ∧
    (∀ h : s.mgp.cursor.index < 16, s.mgp.cursor.table = .liveLadder →
      reads (.profileRecord s.liveBank.ladder[s.mgp.cursor.index])) ∧
    (∀ h : s.mgp.cursor.index < 8, s.mgp.cursor.table = .stagedClasses →
      reads (.classRecord s.stagedBank.classes[s.mgp.cursor.index])) ∧
    (∀ h : s.mgp.cursor.index < 8, s.mgp.cursor.table = .liveClasses →
      reads (.classRecord s.liveBank.classes[s.mgp.cursor.index])) ∧
    ((if s.mgp.cursor.table = .stagedLadder ∨ s.mgp.cursor.table = .liveLadder then 16 else 8) ≤
        s.mgp.cursor.index →
      exec .readNext s = .next { s with mgp := { s.mgp with response := some ⟨.badArg, .empty⟩ } })

/-- SET CURSOR places the cursor on a record of one of the four tables, or is answered BAD-ARG; WRITE NEXT stores a
record in the staged bank with its digest, in the order of its checks: the cursor, the staged status, and the range of
each field. That a two-valued field is its byte's lowest bit is the model's choice (log 9). -/
def Obligations.CursorWritesStagedBank : Prop :=
  (∀ s table index, exec (.setCursor table index) s = .next
    (match tableOf table with
      | some x =>
        if index.toNat < (if x = .stagedLadder ∨ x = .liveLadder then 16 else 8) then
          { s with mgp := { s.mgp with cursor := ⟨x, index.toNat⟩, response := some ⟨.ok, .empty⟩ } }
        else { s with mgp := { s.mgp with response := some ⟨.badArg, .empty⟩ } }
      | none => { s with mgp := { s.mgp with response := some ⟨.badArg, .empty⟩ } })) ∧
  ∀ s r, ∃ t, exec (.writeNext r) s = .next t ∧
    (let c := s.mgp.cursor
     let onLadder := c.table = .stagedLadder ∧ c.index < 16
     let onClasses := c.table = .stagedClasses ∧ c.index < 8
     if ¬onLadder ∧ ¬onClasses then t = answer .badArg s
     else if s.pst.status = .offered ∨ s.pst.status = .agreed then t = answer .busy s
     else
      let first := r[2].toNat * 256 + r[3].toNat
      let second := r[4].toNat * 256 + r[5].toNat
      let inRange := if onLadder then
          r[1].toNat ≤ 15 ∧ r[2].toNat ≤ 7 ∧ 1 ≤ r[3].toNat ∧ r[3].toNat ≤ 240 ∧ r[4].toNat ≤ 15 ∧
            r[5].toNat ≤ 15 ∧ 1 ≤ r[6].toNat ∧ r[6].toNat ≤ 15
        else r[1].toNat ≤ 7 ∧ first ≤ 480 ∧ second ≤ 480
      if ¬inRange then t = answer .badArg s
      else
      (onLadder → ∃ x : ProfileRecord,
        t.stagedBank = { s.stagedBank with ladder := s.stagedBank.ladder.setIfInBounds c.index x } ∧
        x.valid = r[0].getLsbD 0 ∧ x.constellation.val = r[1].toNat ∧ x.rate.val = r[2].toNat ∧
        x.slots = r[3].toNat ∧ x.enter = r[4].toNat ∧ x.stay = r[5].toNat ∧ x.upHold = r[6].toNat) ∧
      (onClasses → ∃ x : ClassRecord,
        t.stagedBank = { s.stagedBank with classes := s.stagedBank.classes.setIfInBounds c.index x } ∧
        x.enabled = r[0].getLsbD 0 ∧ x.priority = r[1].toNat ∧ x.guaranteed = first ∧ x.ceiling = second ∧
        x.shed = if r[6].getLsbD 0 then .hold else .restore) ∧
      t.stagedDigest = bankDigest t.stagedBank ∧ t.pst.status = .editing ∧ t.pst.live = s.pst.live ∧
      t.liveBank = s.liveBank ∧ t.liveDigest = s.liveDigest ∧ t.pst.masks = s.pst.masks ∧
      t = { s with
        pst := t.pst
        mgp := { s.mgp with cursor := ⟨c.table, c.index + 1⟩, response := some ⟨.ok, .empty⟩ } })

/-- COMMIT STAGED verifies the staged bank when it passes every check, each of which is spelled out here, and returns
its digest; a refusal names the first check that fails, in their order, and the lowest index that fails it; COPY LIVE TO
STAGED copies the live bank and its digest; both are BUSY while an exchange holds it. -/
def Obligations.CommitChecksTheStagedBank : Prop :=
  (∀ b : Bank, commitFailure b = none ↔
    (b.profile 0).valid = true ∧
    (∀ p, (b.profile p).valid = true →
      (b.profile p).constellation.val ≤ 9 ∧ (b.profile p).stay ≤ (b.profile p).enter) ∧
    (∀ p q, (b.profile p).valid = true → (b.profile q).valid = true → p < q →
      (b.profile p).slots ≤ (b.profile q).slots ∧ (b.profile p).enter ≤ (b.profile q).enter ∧
      (b.profile p).stay ≤ (b.profile q).stay) ∧
    ∀ c, (b.cls c).guaranteed ≤ (b.cls c).ceiling) ∧
  (∀ (b : Bank) r, commitFailure b = some r →
    let constellation (p : Profile) : Prop := (b.profile p).valid = true → (b.profile p).constellation.val ≤ 9
    let stay (p : Profile) : Prop := (b.profile p).valid = true → (b.profile p).stay ≤ (b.profile p).enter
    let order (q : Profile) : Prop := (b.profile q).valid = true → ∀ p, p < q → (b.profile p).valid = true →
      (∀ m, p < m → m < q → (b.profile m).valid = false) →
      (b.profile p).slots ≤ (b.profile q).slots ∧ (b.profile p).enter ≤ (b.profile q).enter ∧
      (b.profile p).stay ≤ (b.profile q).stay
    let ceiling (c : ClassNo) : Prop := (b.cls c).guaranteed ≤ (b.cls c).ceiling
    let first (f : Profile → Prop) (p : Profile) : Prop := ¬f p ∧ ∀ q, q < p → f q
    (r = .baseInvalid 0 ∧ (b.profile 0).valid = false) ∨
    ((b.profile 0).valid = true ∧
      ((∃ p : Profile, r = .constellation p ∧ first constellation p) ∨
       ((∀ p, constellation p) ∧
        ((∃ p : Profile, r = .stayAboveEnter p ∧ first stay p) ∨
         ((∀ p, stay p) ∧
          ((∃ q : Profile, r = .ladderOrder q ∧ first order q) ∨
           ((∀ q, order q) ∧ ∃ c : ClassNo, r = .ceiling c ∧ ¬ceiling c ∧ ∀ d, d < c → ceiling d)))))))) ∧
  (∀ s, exec .commitStaged s = .next
    (if s.pst.status = .offered ∨ s.pst.status = .agreed then answer .busy s
    else match commitFailure s.stagedBank with
      | some r => answer (.refused r) { s with pst := { s.pst with status := .editing } }
      | none => answerData (.word s.stagedDigest) { s with pst := { s.pst with status := .verified } })) ∧
  ∀ s, ∃ t, exec .copyLiveToStaged s = .next t ∧
    if s.pst.status = .offered ∨ s.pst.status = .agreed then t = answer .busy s
    else t.stagedBank = s.liveBank ∧ t.stagedDigest = s.liveDigest ∧ t.liveBank = s.liveBank ∧
      t.liveDigest = s.liveDigest ∧ t.pst.live = s.pst.live ∧ t.pst.status = .editing ∧
      t.pst.masks = s.pst.masks ∧ t = { answer .ok s with pst := t.pst }

/-- PROPOSE FLIP and FLIP LOCAL, in the order of their checks: the outstanding offer and its message, and the BANK
entry two superframes ahead with its fence. -/
def Obligations.FlipCommandsOfferOrSchedule : Prop :=
  (∀ s, exec .proposeFlip s = .next
    (if s.pst.status = .offered ∨ s.pst.status = .agreed then answer .busy s
    else if s.pst.status = .editing then answer (.refused .notVerified) s
    else if s.ohl.lock.state ≠ .locked then answer (.refused .noLock) s
    else if s.se.peerSilent = true then answer (.refused .peerSilent) s
    else
      let toggle := !s.se.flip.offerToggle
      let epoch := s.sfn + BitVec.ofNat 16 s.params.flipLead
      answerData (.word epoch)
        { s with
          se := { s.se with flip := { s.se.flip with
            offerToggle := toggle,
            offer := some { toggle := toggle, epoch := epoch, digest := s.stagedDigest,
                            retries := s.params.retryCount, timer := s.params.responseTime } } }
          pst := { s.pst with status := .offered }
          ohl := { s.ohl with tx := { s.ohl.tx with
            flipOffer := some ⟨toggle, s.stagedDigest, epoch, s.params.stationId⟩ } } })) ∧
  ∀ s, ∃ t, exec .flipLocal s = .next t ∧
    (if s.pst.status = .agreed then t = answer .busy s
    else if s.pst.status = .editing then t = answer (.refused .notVerified) s
    else t.mgp.response = some ⟨.ok, .word (s.sfn + 2)⟩ ∧ t.pst.status = .agreed ∧
      t.se.flip = { s.se.flip with offer := none, lastOutcome := some .agreed } ∧
      (s.entry .bank = none → Fenced (s.sfn + 2) s t) ∧
      (∀ d l, t.liveProfile d l = s.liveProfile d l) ∧ t.ohl.lock = s.ohl.lock ∧
      t.ohl.deframer = s.ohl.deframer ∧ s.KeptByPeer { t with mgp := { t.mgp with response := s.mgp.response } })

/-- WRITE MASK: the mask formed by the mode, with profile 0, and what it returns. A write that takes the live profile
or the pin of an enabled lane's context away maintains the pin. An Out context is then settled: by a mask step, which
leaves an entry alone, when its live profile was taken, and at once when only its pin was. An In context that loses its
live profile decides again in STEADY and defers in an exchange, and a pin that was replaced acts as a new PIN ahead of
that; that the two follow each other is the model's reading of R87 and R88 (log 13). In every other case nothing but the
mask changes. -/
def Obligations.MaskWritesMoveContexts : Prop :=
  ∀ s lane direction mode value, ∃ t, exec (.writeMask lane direction mode value) s = .next t ∧
    match laneOf lane, dirOf direction, maskModeOf mode with
    | some l, some d, some k =>
      let m := (match k with
        | .load => value
        | .setBits => s.mask l d ||| value
        | .clearBits => s.mask l d &&& ~~~value) ||| 1
      let removed := s.mask l d &&& ~~~m
      let u := { s with pst := { s.pst with masks := s.pst.masks.set l ((s.pst.masks.get l).set d m) } }
      t.pst = u.pst ∧ t.mgp.response = some ⟨.ok, .word m⟩ ∧
      (s.enabled l = false ∨ inSet removed (s.liveProfile d l) = false ∧
          (match d with
            | .inbound => (s.inCtx l).pin
            | .outbound => (s.outCtx l).pin).any (inSet removed) = false →
        t = answerData (.word m) u) ∧
      (d = .outbound → s.enabled l = true →
        let c := s.outCtx l
        let before := s.entryOf .outbound l
        t.outCtx l = { c with state := (t.outCtx l).state, pin := (t.outCtx l).pin } ∧
        (inSet removed c.pOut = true ∨ c.pin.any (inSet removed) = true →
          Maintained .outbound l c.pin (t.outCtx l).pin t) ∧
        (inSet removed c.pOut = true → before ≠ none →
          t.sws = s.sws ∧ t.trp = s.trp ∧ (t.outCtx l).state = c.state) ∧
        (inSet removed c.pOut = true ∧ before = none ∨
            inSet removed c.pOut = false ∧ c.pin.any (inSet removed) = true →
          s.ScheduleShaped → 2 ≤ s.params.longLead → s.params.longLead ≤ 255 → 2 ≤ s.params.shortLead →
          s.params.shortLead ≤ 64 → Settled l s.sfn before t ∧
            (t.entryOf .outbound l = before → t.sws = s.sws ∧ t.trp = s.trp) ∧
            (∀ e, t.entryOf .outbound l = some e → before ≠ some e → s.trp.Quiet →
              t.trp = s.trp.handAll (t.insertionNotices .outbound before e.epoch)) ∧
            (∀ e, before = some e → t.entryOf .outbound l = none → s.trp.Quiet →
              t.trp = s.trp.handAll (t.withdrawalNotices .outbound e.epoch))) ∧
        (∀ o, o ≠ .context .outbound l → t.entry o = s.entry o) ∧
        t.outCtx (otherLane l) = s.outCtx (otherLane l) ∧ t.se.inCtx = s.se.inCtx ∧ t.ohl = s.ohl) ∧
      (d = .outbound → s.enabled l = true → inSet removed (s.outCtx l).pOut = true →
        (s.outCtx l).mode = .adaptive → (s.outCtx l).pin = none → s.entryOf .outbound l = none →
        s.entry .bank = none → 2 ≤ s.params.longLead → s.params.longLead ≤ 255 →
        t.entryOf .outbound l = some ⟨.context .outbound l
          ((highestBelow (allowed u .outbound l) (s.outCtx l).pOut).getD 0),
          sfnPlus s.sfn s.params.longLead, .mask, false⟩ ∧ (t.outCtx l).state = .scheduled) ∧
      (d = .inbound → s.enabled l = true →
        let c := s.inCtx l
        let live := inSet removed c.pIn
        (live = true → c.pin.all (allowed u .inbound l) = true →
          match c.state with
          | .steady => ReDecides l .normal c s t
          | .asking => Defers l false c s t
          | .awaiting => Defers l false c s t
          | .awaitingTag => Defers l false c s t
          | .held => Stays l c s t
          | .silent => Stays l c s t) ∧
        (∀ p, c.pin = some p → allowed u .inbound l p = false → live = true ∨ inSet removed p = true →
          ∃ q, IsHighestBelow (allowed t .inbound l) p q ∧
            let pinned := { c with pin := some q }
            let behind := if live then { pinned with deferred := some (c.deferred.getD .normal) } else pinned
            match c.state with
            | .steady =>
              if c.farLaneOff = true then Defers l false pinned s t
              else if c.pIn = q then Stays l { pinned with upHold := 0, deferred := none } s t
              else Sends l q .normal (if live then { pinned with deferred := some .normal }
                else { pinned with deferred := none }) s t
            | .asking =>
              if c.ask.any (fun a => a.target != q) = true then Sends l q .normal behind s t
              else Defers l false pinned s t
            | .awaiting => Defers l false pinned s t
            | .awaitingTag => Defers l false pinned s t
            | .held => Stays l pinned s t
            | .silent => Stays l pinned s t) ∧
        t.inCtx (otherLane l) = s.inCtx (otherLane l) ∧ t.se.outCtx = s.se.outCtx ∧ t.sws = s.sws ∧ t.trp = s.trp) ∧
      (d = .inbound → s.enabled l = true → inSet removed (s.inCtx l).pIn = true → (s.inCtx l).pin = none →
        (s.inCtx l).state = .steady → (s.inCtx l).farLaneOff = false → (s.inCtx l).deferred = none →
        (t.inCtx l).state = .asking ∧ (t.inCtx l).ask = some
          { target := downTarget u l, urgency := .normal, toggle := !(s.inCtx l).toggle,
            retries := s.params.retryCount, timer := s.params.responseTime, busy := false }) ∧
      (∀ d l, t.liveProfile d l = s.liveProfile d l) ∧ t.se.flip = s.se.flip ∧ t.mdp = s.mdp ∧ t.qg = s.qg ∧
      t.cal = s.cal ∧ t.mgp.params = s.mgp.params ∧ t.prc.ring = s.prc.ring ∧ t.pending = s.pending
    | _, _, _ => t = answer .badArg s

/-- PIN and UNPIN, in the order of their checks, and what each does to its context. -/
def Obligations.PinsHoldContexts : Prop :=
  (∀ s lane direction profile, ∃ t, exec (.pin lane direction profile) s = .next t ∧
    match laneOf lane, dirOf direction, profileOf profile with
    | some l, some d, some p =>
      if s.enabled l = false then t = answer (.refused .laneOff) s
      else if allowed s d l p = false then t = answer .badArg s
      else
        t.mgp.response = some ⟨.ok, .empty⟩ ∧ (∀ d l, t.liveProfile d l = s.liveProfile d l) ∧
        (d = .outbound → (t.outCtx l).pin = some p ∧ (t.outCtx l).mode = .pinned ∧ t.se.inCtx = s.se.inCtx ∧
          (2 ≤ s.params.longLead → s.params.longLead ≤ 255 → s.ScheduleShaped →
            Settled l s.sfn (s.entryOf .outbound l) t) ∧
          (p = (s.outCtx l).pOut → s.entryOf .outbound l = none → t.sws = s.sws) ∧
          (p ≠ (s.outCtx l).pOut → s.entryOf .outbound l = none → s.entry .bank = none →
            2 ≤ s.params.longLead → s.params.longLead ≤ 255 → t.entryOf .outbound l =
              some ⟨.context .outbound l p, sfnPlus s.sfn s.params.longLead, .pin, false⟩)) ∧
        (d = .inbound → (t.inCtx l).pin = some p ∧ t.se.outCtx = s.se.outCtx ∧ t.sws = s.sws ∧
          ((s.inCtx l).state = .steady → (s.inCtx l).farLaneOff = false →
            ((t.inCtx l).state = if (s.inCtx l).pIn = p then .steady else .asking) ∧
            ((s.inCtx l).pIn ≠ p → (t.inCtx l).ask = some
              { target := p, urgency := .normal, toggle := !(s.inCtx l).toggle, retries := s.params.retryCount,
                timer := s.params.responseTime, busy := false })) ∧
          (∀ a, (s.inCtx l).state = .asking → (s.inCtx l).ask = some a → a.target ≠ p → (t.inCtx l).ask = some
            { target := p, urgency := .normal, toggle := !(s.inCtx l).toggle, retries := s.params.retryCount,
              timer := s.params.responseTime, busy := false }) ∧
          (((s.inCtx l).state = .steady ∧ (s.inCtx l).farLaneOff = true) ∨
              ((s.inCtx l).state = .asking ∧ (s.inCtx l).ask.any (fun a => a.target != p) = false) ∨
              (s.inCtx l).state = .awaiting ∨ (s.inCtx l).state = .awaitingTag →
            t.inCtx l = { s.inCtx l with pin := some p, deferred := some ((s.inCtx l).deferred.getD .normal) }) ∧
          ((s.inCtx l).state = .held ∨ (s.inCtx l).state = .silent →
            t.inCtx l = { s.inCtx l with pin := some p })) ∧
        t.pst = s.pst ∧ t.mdp = s.mdp ∧ t.qg = s.qg ∧ t.cal = s.cal ∧ t.se.flip = s.se.flip ∧
        t.mgp.params = s.mgp.params ∧ t.pending = s.pending
    | _, _, _ => t = answer .badArg s) ∧
  ∀ s lane direction, ∃ t, exec (.unpin lane direction) s = .next t ∧
    match laneOf lane, dirOf direction with
    | some l, some d =>
      if s.enabled l = false then t = answer (.refused .laneOff) s
      else match d with
        | .inbound => t = answer .ok (setIn l { s.inCtx l with pin := none } s)
        | .outbound =>
          if (s.outCtx l).pin = none then t = answer .ok s
          else (t.outCtx l).pin = none ∧ (t.outCtx l).mode = (if s.se.peerSilent then .fallback else .adaptive) ∧
            (t.outCtx l).pOut = (s.outCtx l).pOut ∧ t.mgp.response = some ⟨.ok, .empty⟩ ∧
            (s.ScheduleShaped → 2 ≤ s.params.longLead → s.params.longLead ≤ 255 → 2 ≤ s.params.shortLead →
              s.params.shortLead ≤ 64 → Settled l s.sfn (s.entryOf .outbound l) t) ∧
            t.se.inCtx = s.se.inCtx ∧ t.outCtx (otherLane l) = s.outCtx (otherLane l) ∧ t.pst = s.pst ∧
            t.mdp = s.mdp ∧ t.qg = s.qg ∧ t.cal = s.cal ∧ t.pending = s.pending
    | _, _ => t = answer .badArg s

/-! ## Management: lanes, clears, parameters and reads -/

/-- LANE RESTART, LANE ENABLE and LANE DISABLE: the lane's contexts, entries, grader and slots start afresh, its
enabled flag is the command's, the maps and block flags follow, and the other lane and the BANK entry stay. The traffic
port is handed the withdrawals in schedule order, SWITCHED IN, SWITCHED OUT and the block notices. That LANE RESTART of a disabled
lane is carried out in full is the model's reading of R34, R92 and R161 (log 16). -/
def Obligations.LaneCommandsRestartTheLane : Prop :=
  ∀ s lane,
    (laneOf lane = none → ∀ c ∈ [Instr.laneRestart lane, .laneEnable lane, .laneDisable lane],
      exec c s = .next (answer .badArg s)) ∧
    ∀ l, laneOf lane = some l →
      (s.enabled l = true → exec (.laneEnable lane) s = .next (answer .ok s)) ∧
      ∀ c ∈ (if s.enabled l = true then [Instr.laneRestart lane, .laneDisable lane]
          else [.laneRestart lane, .laneEnable lane, .laneDisable lane]),
        ∃ t, exec c s = .next t ∧ t.mgp.response = some ⟨.ok, .empty⟩ ∧
          t.enabled l = (if c = .laneRestart lane then s.enabled l else decide (c = .laneEnable lane)) ∧
          t.inCtx l = { InContext.fresh with state := if s.se.peerSilent then .silent else .steady } ∧
          t.outCtx l = { OutContext.fresh with mode := if s.se.peerSilent then .fallback else .adaptive } ∧
          t.grader l = .restart ∧ t.ohl.tx.reply.get l = none ∧ t.ohl.tx.ask.get l = none ∧
          (∀ d p, ∀ e ∈ t.sws, e.switch ≠ .context d l p) ∧
          (∀ d, t.entryOf d (otherLane l) = s.entryOf d (otherLane l)) ∧ t.entry .bank = s.entry .bank ∧
          (∀ d, t.cal.live.get d = liveMapOf t d) ∧ (t.prc.building.lanes.get l).worstGrade = 0 ∧
          (∀ c : ClassNo, t.cal.blocked.getLsbD c =
            s.liveBank.blockAfter s.cal.blocked s.cal.live.outbound t.cal.live.outbound c) ∧
          (s.trp.Quiet → t.trp = s.trp.handAll
            ((s.sws.filterMap fun e => match e.switch with
              | .context d k _ => if k = l then some (t.withdrawalNotices d e.epoch) else none
              | .bank _ => none).flatten ++
            .switched .inbound (s.sfn + 2) t.cal.live.inbound :: .switched .outbound (s.sfn + 2) t.cal.live.outbound ::
            s.liveBank.blockNotices s.cal.blocked s.cal.live.outbound t.cal.live.outbound)) ∧
          (let k := otherLane l
           t.enabled k = s.enabled k ∧ t.inCtx k = s.inCtx k ∧ t.outCtx k = s.outCtx k ∧
           t.grader k = s.grader k ∧ t.ohl.tx.reply.get k = s.ohl.tx.reply.get k ∧
           t.ohl.tx.ask.get k = s.ohl.tx.ask.get k) ∧
          t.sfn = s.sfn ∧ t.mdp.history = s.mdp.history ∧ t.mdp.taken = s.mdp.taken ∧ t.pst = s.pst ∧
          t.se.peerSilent = s.se.peerSilent ∧ t.se.flip = s.se.flip ∧ t.ohl.lock = s.ohl.lock ∧
          t.ohl.deframer = s.ohl.deframer ∧ t.ohl.silence = s.ohl.silence ∧ t.ohl.beacon = s.ohl.beacon ∧
          t.ohl.tx.bits = s.ohl.tx.bits ∧ t.ohl.far = s.ohl.far ∧ t.mgp.cursor = s.mgp.cursor ∧
          t.mgp.enables = s.mgp.enables ∧ t.mgp.laneParams = s.mgp.laneParams ∧ t.mgp.params = s.mgp.params ∧
          t.prc.counters = s.prc.counters ∧ t.prc.ring = s.prc.ring ∧ t.prc.histogram = s.prc.histogram ∧
          t.modemOut = s.modemOut ∧ t.pending = s.pending

/-- RELEASE CLASS, by the state of the class's block flag and its share in the live OUT map. -/
def Obligations.ReleaseClassActsOnBlockFlag : Prop :=
  ∀ s cls, exec (.releaseClass cls) s = .next
    (match classOf cls with
      | none => answer .badArg s
      | some c =>
        if s.cal.blocked.getLsbD c = false then answer .ok s
        else if s.cal.live.outbound.share c = 0 then answer (.refused .noShare) s
        else answer .ok (handNotice (.classReleased c)
          { s with cal := { s.cal with blocked := s.cal.blocked &&& ~~~BitVec.twoPow 8 c } }))

/-- OVERHEAD RESTART returns the link to a fresh start and cancels an outstanding offer; FULL CLEAR returns the
runtime state of every block to its power-on values and keeps the rest. -/
def Obligations.RestartAndClearKeepThePlan : Prop :=
  (∀ s, ∃ t, exec .overheadRestart s = .next t ∧ t.mgp.response = some ⟨.ok, .empty⟩ ∧
    (∀ x, slotFrame t t.ohl.tx x = none) ∧ t.ohl.tx.frame = none ∧
    t.ohl.tx.bits = (if s.ohl.tx.frame.isSome then abortBits else s.ohl.tx.bits) ∧
    t.ohl.tx.lastLane = s.ohl.tx.lastLane ∧ t.ohl.deframer = .searching ∧ t.ohl.lock = .hunting ∧
    (s.ohl.deframer.state = .collect → s.ohl.deframer.collected ≠ [] → s.counter (.ohl .lost) < 65535 →
      t.counter (.ohl .lost) = s.counter (.ohl .lost) + 1) ∧
    (if s.se.flip.offer.isSome = true then
      t.se = { s.se with flip := { s.se.flip with offer := none, lastOutcome := some .cancelled } } ∧
      t.pst = { s.pst with status := .verified } ∧ t.flagSet .flipFailed = true
    else t.se = s.se ∧ t.pst = s.pst) ∧
    t.ohl.silence = s.ohl.silence ∧ t.ohl.beacon = s.ohl.beacon ∧ t.ohl.far = s.ohl.far ∧ t.mdp = s.mdp ∧
    t.qg = s.qg ∧ t.sws = s.sws ∧ t.cal = s.cal ∧ t.trp = s.trp ∧ t.mgp.cursor = s.mgp.cursor ∧
    t.mgp.enables = s.mgp.enables ∧ t.mgp.laneParams = s.mgp.laneParams ∧ t.mgp.params = s.mgp.params ∧
    t.prc.ring = s.prc.ring ∧ t.prc.building = s.prc.building ∧ t.prc.histogram = s.prc.histogram ∧
    t.pending = s.pending) ∧
  ∀ s, ∃ t, exec .fullClear s = .next t ∧ t.mgp.response = some ⟨.ok, .empty⟩ ∧ t.se = .reset ∧ t.sws = [] ∧
    (∀ l, t.grader l = .restart) ∧ (∀ x, slotFrame t t.ohl.tx x = none) ∧ t.ohl.tx.frame = none ∧
    t.ohl.tx.bits = (if s.ohl.tx.frame.isSome then abortBits else s.ohl.tx.bits) ∧ t.ohl.tx.lastLane = .one ∧
    t.ohl.deframer = .searching ∧ t.ohl.lock = .hunting ∧ t.ohl.silence = 0 ∧
    t.ohl.beacon = 0 ∧ (∀ l, t.ohl.far.get l = none) ∧
    t.pst = { s.pst with status := if s.pst.status = .editing then .editing else .verified } ∧
    (∀ d, t.cal.live.get d = liveMapOf t d) ∧ t.cal.blocked = 0 ∧ t.trp.queue = [] ∧ t.trp.reply = none ∧
    t.trp.resync = false ∧ t.trp.sending = s.trp.sending ∧ t.mdp = s.mdp ∧ t.mgp.cursor = s.mgp.cursor ∧
    t.mgp.enables = s.mgp.enables ∧ t.mgp.laneParams = s.mgp.laneParams ∧ t.mgp.params = s.mgp.params ∧
    (∀ f, f ≠ .counterLimit → t.flagSet f = s.flagSet f) ∧ t.prc.ring = s.prc.ring ∧
    t.prc.second = s.prc.second ∧ t.prc.histogram = s.prc.histogram ∧ t.pending = s.pending

/-- WRITE PARAM and READ PARAM: a value in range is stored and read back, one out of range is answered BAD-ARG and
changes nothing, the short lead is clamped, a lower long lead takes the short lead with it, and the plan status is
read only. A write of a fixed branch mode moves the current selection of a disabled lane too, which is the model's
choice (log 25). The attention output is asserted exactly while a flag is both set and enabled; it follows a raise of a flag
and a write of the enables. -/
def Obligations.ParamsAreStoredAndReadBack : Prop :=
  (∀ s item lane v, (itemOf item = none ∨ (∃ i, itemOf item = some (.lane i)) ∧ laneOf lane = none) →
    exec (.writeParam item lane v) s = .next (answer .badArg s) ∧
    exec (.readParam item lane) s = .next (answer .badArg s)) ∧
  (∀ s item lane l n i, itemOf item = some (.lane i) → laneOf lane = some l → i ≠ .branchMode → i ≠ .thresholds →
    ∃ t, exec (.writeParam item lane (.number n)) s = .next t ∧
      if (match i with
          | .window => n = 8 ∨ n = 16 ∨ n = 32 ∨ n = 64
          | .penalty => n ≤ 7
          | .hysteresis => n ≤ 63
          | .branchHold => n ≤ 15
          | _ => n ≤ 255 : Bool) = true then
        t.mgp.response = some ⟨.ok, .empty⟩ ∧
        exec (.readParam item lane) t = .next (answerData (.number 1 n) t) ∧
        t.laneParams (otherLane l) = s.laneParams (otherLane l) ∧ t.params = s.params ∧
        (i = .window → ∀ b, ((t.grader l).branches.get b).count = 0 ∧
          ((t.grader l).branches.get b).lastMetric = ((s.grader l).branches.get b).lastMetric) ∧
        (i ≠ .window → t.qg = s.qg)
      else t = answer .badArg s) ∧
  (∀ s lane n code low high bytes, (code, low, high, bytes) ∈ ([(10, 4, 255, 1), (11, 0, 7, 1), (12, 256, 4096, 2),
      (13, 0, 255, 1), (14, 16, 4095, 2), (15, 8, 1024, 2), (16, 0, 1, 1), (17, 250, 4000, 2)] :
      List (Byte × Nat × Nat × Nat)) →
    ∃ t, exec (.writeParam code lane (.number n)) s = .next t ∧
      if low ≤ n ∧ n ≤ high then
        t.mgp.response = some ⟨.ok, .empty⟩ ∧
        exec (.readParam code lane) t = .next (answerData (.number bytes n) t) ∧
        t.mgp.laneParams = s.mgp.laneParams ∧ t.params.longLead = s.params.longLead ∧
        t.params.shortLead = s.params.shortLead
      else t = answer .badArg s) ∧
  (∀ s lane l ts, laneOf lane = some l → exec (.writeParam 2 lane (.thresholds ts)) s = .next
    (if (∀ x ∈ ts.toList, x ≤ 1023) ∧ ts.toList.Pairwise (· > ·) then
      answer .ok { s with mgp := { s.mgp with
        laneParams := s.mgp.laneParams.set l { s.laneParams l with thresholds := ts } } }
    else answer .badArg s) ∧
    exec (.readParam 2 lane) s = .next (answerData (.thresholds (s.laneParams l).thresholds) s)) ∧
  (∀ s lane n, exec (.writeParam 8 lane (.number n)) s = .next
    (if 8 ≤ n ∧ n ≤ 255 then
      answer .ok { s with mgp := { s.mgp with
        params := { s.params with longLead := n, shortLead := min s.params.shortLead n } } }
    else answer .badArg s) ∧
    exec (.readParam 8 lane) s = .next (answerData (.number 1 s.params.longLead) s)) ∧
  (∀ s lane n, ∃ stored, stored = max 2 (min n (min 64 s.params.longLead)) ∧
    exec (.writeParam 9 lane (.number n)) s = .next (answerData (.number 1 stored)
      { s with mgp := { s.mgp with params := { s.params with shortLead := stored } } }) ∧
    exec (.readParam 9 lane) s = .next (answerData (.number 1 s.params.shortLead) s)) ∧
  (∀ s : State, (s.attention = true ↔ ∃ f : Flag, s.flagSet f = true ∧ s.mgp.enables.getLsbD f.position = true) ∧
    ∀ f, ((raise f s).attention = true ↔ s.attention = true ∨ s.mgp.enables.getLsbD f.position = true)) ∧
  (∀ s lane (set : BitVec 16), exec (.writeParam 18 lane (.flags set)) s = .next
    (answer .ok { s with mgp := { s.mgp with enables := set.setWidth 12 } }) ∧
    ((answer .ok { s with mgp := { s.mgp with enables := set.setWidth 12 } }).attention = true ↔
      ∃ f : Flag, s.flagSet f = true ∧ set.getLsbD f.position = true) ∧
    exec (.readParam 18 lane) s = .next (answerData (.flags s.mgp.enables) s)) ∧
  (∀ s lane l, laneOf lane = some l →
    (∀ n x, (n = 1 ∧ x = Branch.main ∨ n = 2 ∧ x = Branch.div) →
      ∃ t, exec (.writeParam 7 lane (.number n)) s = .next t ∧ (t.laneParams l).branchMode.fixed = some x ∧
        (t.grader l).selected = x ∧ (t.grader l).grade = (s.grader l).grade ∧
        ((s.grader l).selected ≠ x → (t.grader l).hold = (s.laneParams l).branchHold) ∧
        exec (.readParam 7 lane) t = .next (answerData (.number 1 n) t)) ∧
    (∃ t, exec (.writeParam 7 lane (.number 0)) s = .next t ∧ (t.laneParams l).branchMode = .auto ∧ t.qg = s.qg ∧
      exec (.readParam 7 lane) t = .next (answerData (.number 1 0) t)) ∧
    ∀ n, 3 ≤ n → exec (.writeParam 7 lane (.number n)) s = .next (answer .badArg s)) ∧
  (∀ s item lane ts (set : BitVec 16) n,
    (item ≠ 2 → exec (.writeParam item lane (.thresholds ts)) s = .next (answer .badArg s)) ∧
    (item ≠ 18 → exec (.writeParam item lane (.flags set)) s = .next (answer .badArg s)) ∧
    (item = 2 ∨ item = 18 → exec (.writeParam item lane (.number n)) s = .next (answer .badArg s))) ∧
  ∀ s lane v, exec (.writeParam 19 lane v) s = .next (answer .badArg s) ∧
    exec (.readParam 19 lane) s = .next (answerData
      (.planStatus s.pst.live s.pst.status s.liveDigest s.stagedDigest s.pst.masks) s)

/-- READ STATUS, READ CONTEXT, READ GRADE, READ LOCK, READ HISTOGRAM, CLEAR HISTOGRAM and TRANSACTION ABORT: what
each returns, field by field, and the one thing that it changes. READ STATUS takes the attention output away. That an
abort leaves no response is the model's choice (log 7). -/
def Obligations.ReadsReturnTheState : Prop :=
  ∀ s, (∃ t, exec .readStatus s = .next t ∧ t.attention = false ∧ t = { s with mgp := { s.mgp with
      flags := 0, response := some ⟨.ok, .status s.mgp.flags s.se.flip.lastOutcome s.pst.status⟩ } }) ∧
    (∀ lane l, laneOf lane = some l →
      exec (.readContext lane 0) s = .next (answerData
        (.inContext { s.inCtx l with tagRun := none } (allowedSet s .inbound l) s.se.peerSilent) s) ∧
      exec (.readContext lane 1) s = .next (answerData
        (.outContext (s.outCtx l) (allowedSet s .outbound l) (s.entryOf .outbound l) s.se.peerSilent) s) ∧
      (let g := s.grader l
       ∃ m : Margin, IsMargin s l m ∧
        exec (.readGrade lane) s = .next (answerData (.grade
          { grade := g.grade, worst := g.worst, margin := m, selectedLock := g.selectedLock
            counts := ⟨g.branches.main.count, g.branches.div.count⟩
            metrics := ⟨g.branches.main.lastMetric, g.branches.div.lastMetric⟩
            locks := ⟨g.branches.main.latestLock, g.branches.div.latestLock⟩
            selected := g.selected, mode := (s.laneParams l).branchMode, hold := g.hold })
          (setGrader l { g with worst := g.grade } s))) ∧
      exec (.readHistogram lane 0) s = .next (answerData (.bins (s.prc.histogram.get l).inbound) s) ∧
      exec (.readHistogram lane 1) s = .next (answerData (.bins (s.prc.histogram.get l).outbound) s)) ∧
    (∀ d l p, inSet (allowedSet s d l) p = allowed s d l p) ∧
    (∀ lane direction, laneOf lane = none ∨ dirOf direction = none →
      exec (.readContext lane direction) s = .next (answer .badArg s) ∧
      exec (.readHistogram lane direction) s = .next (answer .badArg s)) ∧
    (∀ lane, laneOf lane = none → exec (.readGrade lane) s = .next (answer .badArg s)) ∧
    (let x := s.ohl.tx
     exec .readLock s = .next (answerData (.lock
      { lock := s.ohl.lock, silence := s.ohl.silence, beacon := s.ohl.beacon, deframer := s.ohl.deframer.state
        replyHeld := ⟨x.reply.lane0.isSome, x.reply.lane1.isSome⟩, answerHeld := x.flipAnswer.isSome
        askHeld := ⟨x.ask.lane0.map AskMessage.urgency, x.ask.lane1.map AskMessage.urgency⟩
        offerHeld := x.flipOffer.isSome, beaconHeld := x.beacon, frame := x.frame, arbiter := s.params.arbiter
        lastLane := x.lastLane, far := s.ohl.far, peerSilent := s.se.peerSilent }) s)) ∧
    (∃ t, exec .clearHistogram s = .next t ∧ (∀ l d (p : Profile), ((t.prc.histogram.get l).get d)[p] = 0) ∧
      t = { answer .ok s with prc := { s.prc with histogram := t.prc.histogram } }) ∧
    exec .transactionAbort s = .next { s with mgp := { s.mgp with response := none } }

/-- READ COUNTERS returns every counter of its group, and with the clear option sets that group, and no other, to 0. -/
def Obligations.CountersAreReadByGroup : Prop :=
  (∀ s clear group, groupOf group = none → exec (.readCounters group clear) s = .next (answer .badArg s)) ∧
  ∀ s clear group first size, (group = 0 ∧ first = 0 ∧ size = 4 ∨ group = 1 ∧ first = 4 ∧ size = 10 ∨
      group = 2 ∧ first = 14 ∧ size = 22) →
    ∃ t, exec (.readCounters group clear) s = .next t ∧
      t.mgp.response = some ⟨.ok, .counters ((s.prc.counters.toList.drop first).take size)⟩ ∧
      (∀ c, t.counter c =
        if clear = true ∧ first ≤ c.place.val ∧ c.place.val < first + size then 0 else s.counter c) ∧
      t = { s with
        prc := { s.prc with counters := t.prc.counters }
        mgp := { s.mgp with response := t.mgp.response } }

/-- READ RECORD returns the record at its age, and a latch before it makes age 0 the record just latched. -/
def Obligations.RecordsAreReadByAge : Prop :=
  (∀ s age, exec (.readRecord age) s = .next
    (if 64 ≤ age.toNat then answer .badArg s
    else match s.prc.ring[age.toNat]? with
      | some r => answerData (.seconds r) s
      | none => answer (.refused .noRecord) s)) ∧
  ∀ s w, (latch w s).prc.ring[0]? = some s.prc.building
end

