-- ==== Sys2Proof/Laws/State.lean ====
section
/-! SUPPORT. The updates of the state: what each one writes, and the fields it leaves as they are. A `_frame` theorem
names every field that its operation leaves alone; as a simp lemma it rewrites each of them. -/

namespace Sys2Proof.Machine

/-! ## Pairs -/

@[simp] theorem PerLane.get_set_same {α : Type} (p : PerLane α) (l : Lane) (a : α) : (p.set l a).get l = a := by
  cases l <;> rfl

theorem PerLane.get_set {α : Type} (p : PerLane α) (l m : Lane) (a : α) :
    (p.set l a).get m = if m = l then a else p.get m := by
  cases l <;> cases m <;> rfl

@[simp] theorem PerLane.get_set_other {α : Type} (p : PerLane α) (l m : Lane) (a : α) (h : m ≠ l) :
    (p.set l a).get m = p.get m := by
  simp [PerLane.get_set, h]

@[simp] theorem PerBranch.get_set_same {α : Type} (p : PerBranch α) (b : Branch) (a : α) :
    (p.set b a).get b = a := by
  cases b <;> rfl

theorem PerBranch.get_set {α : Type} (p : PerBranch α) (b c : Branch) (a : α) :
    (p.set b a).get c = if c = b then a else p.get c := by
  cases b <;> cases c <;> rfl

@[simp] theorem PerBranch.get_set_other {α : Type} (p : PerBranch α) (b c : Branch) (a : α) (h : c ≠ b) :
    (p.set b a).get c = p.get c := by
  simp [PerBranch.get_set, h]

@[simp] theorem PerDir.get_set_same {α : Type} (p : PerDir α) (d : Dir) (a : α) : (p.set d a).get d = a := by
  cases d <;> rfl

theorem PerDir.get_set {α : Type} (p : PerDir α) (d e : Dir) (a : α) :
    (p.set d a).get e = if e = d then a else p.get e := by
  cases d <;> cases e <;> rfl

@[simp] theorem PerDir.get_set_other {α : Type} (p : PerDir α) (d e : Dir) (a : α) (h : e ≠ d) :
    (p.set d a).get e = p.get e := by
  simp [PerDir.get_set, h]

/-! ## What each update writes -/

@[simp] theorem setIn_inCtx (l : Lane) (c : InContext) (s : State) :
    (setIn l c s).se.inCtx = s.se.inCtx.set l c := rfl

@[simp] theorem setOut_outCtx (l : Lane) (c : OutContext) (s : State) :
    (setOut l c s).se.outCtx = s.se.outCtx.set l c := rfl

@[simp] theorem setGrader_qg (l : Lane) (g : LaneGrader) (s : State) : (setGrader l g s).qg = s.qg.set l g := rfl

@[simp] theorem setCoordinator_flip (c : Coordinator) (s : State) : (setCoordinator c s).se.flip = c := rfl

@[simp] theorem setPeerSilent_mark (mark : Bool) (s : State) : (setPeerSilent mark s).se.peerSilent = mark := rfl

@[simp] theorem setTx_tx (t : Transmitter) (s : State) : (setTx t s).ohl.tx = t := rfl

@[simp] theorem setDeframer_deframer (d : Deframer) (s : State) : (setDeframer d s).ohl.deframer = d := rfl

@[simp] theorem setLock_lock (k : OffsetLock) (s : State) : (setLock k s).ohl.lock = k := rfl

@[simp] theorem setSilence_silence (n : Nat) (s : State) : (setSilence n s).ohl.silence = n := rfl

@[simp] theorem setBeaconTimer_beacon (n : Nat) (s : State) : (setBeaconTimer n s).ohl.beacon = n := rfl

@[simp] theorem setSchedule_sws (es : List Entry) (s : State) : (setSchedule es s).sws = es := rfl

@[simp] theorem setStatus_status (x : StagedStatus) (s : State) : (setStatus x s).pst.status = x := rfl

@[simp] theorem setTrp_trp (t : Trp) (s : State) : (setTrp t s).trp = t := rfl

@[simp] theorem setResponse_response (r : Option Response) (s : State) : (setResponse r s).mgp.response = r := rfl

@[simp] theorem setBuilding_building (r : SecondsRecord) (s : State) : (setBuilding r s).prc.building = r := rfl

@[simp] theorem setSecond_building (l : Lane) (x : LaneSecond) (s : State) :
    (setSecond l x s).prc.building = { s.prc.building with lanes := s.prc.building.lanes.set l x } := rfl

@[simp] theorem answer_response (r : Result) (s : State) : (answer r s).mgp.response = some ⟨r, .empty⟩ := rfl

@[simp] theorem answerData_response (d : ResponseData) (s : State) :
    (answerData d s).mgp.response = some ⟨.ok, d⟩ := rfl

@[simp] theorem answer_frame (r : Result) (s : State) :
    (answer r s).mdp = s.mdp ∧ (answer r s).qg = s.qg ∧ (answer r s).pst = s.pst ∧ (answer r s).se = s.se ∧
    (answer r s).ohl = s.ohl ∧ (answer r s).sws = s.sws ∧ (answer r s).cal = s.cal ∧ (answer r s).trp = s.trp ∧
    (answer r s).mgp.cursor = s.mgp.cursor ∧ (answer r s).mgp.flags = s.mgp.flags ∧
    (answer r s).mgp.enables = s.mgp.enables ∧ (answer r s).mgp.laneParams = s.mgp.laneParams ∧
    (answer r s).mgp.params = s.mgp.params ∧ (answer r s).prc = s.prc ∧ (answer r s).modemOut = s.modemOut ∧
    (answer r s).shares = s.shares ∧ (answer r s).pending = s.pending := by
  constructorm* _ ∧ _ <;> rfl

@[simp] theorem answerData_frame (d : ResponseData) (s : State) :
    (answerData d s).mdp = s.mdp ∧ (answerData d s).qg = s.qg ∧ (answerData d s).pst = s.pst ∧
    (answerData d s).se = s.se ∧ (answerData d s).ohl = s.ohl ∧ (answerData d s).sws = s.sws ∧
    (answerData d s).cal = s.cal ∧ (answerData d s).trp = s.trp ∧ (answerData d s).mgp.cursor = s.mgp.cursor ∧
    (answerData d s).mgp.flags = s.mgp.flags ∧ (answerData d s).mgp.enables = s.mgp.enables ∧
    (answerData d s).mgp.laneParams = s.mgp.laneParams ∧ (answerData d s).mgp.params = s.mgp.params ∧
    (answerData d s).prc = s.prc ∧ (answerData d s).modemOut = s.modemOut ∧ (answerData d s).shares = s.shares ∧
    (answerData d s).pending = s.pending := by
  constructorm* _ ∧ _ <;> rfl

/-! ## What each update leaves alone -/

@[simp] theorem setIn_frame (l : Lane) (c : InContext) (s : State) :
    (setIn l c s).mdp = s.mdp ∧ (setIn l c s).qg = s.qg ∧ (setIn l c s).pst = s.pst ∧
    (setIn l c s).se.outCtx = s.se.outCtx ∧ (setIn l c s).se.peerSilent = s.se.peerSilent ∧
    (setIn l c s).se.flip = s.se.flip ∧ (setIn l c s).ohl = s.ohl ∧ (setIn l c s).sws = s.sws ∧
    (setIn l c s).cal = s.cal ∧ (setIn l c s).trp = s.trp ∧ (setIn l c s).mgp = s.mgp ∧
    (setIn l c s).prc = s.prc ∧ (setIn l c s).modemOut = s.modemOut ∧ (setIn l c s).shares = s.shares ∧
    (setIn l c s).pending = s.pending := by
  constructorm* _ ∧ _ <;> rfl

@[simp] theorem setOut_frame (l : Lane) (c : OutContext) (s : State) :
    (setOut l c s).mdp = s.mdp ∧ (setOut l c s).qg = s.qg ∧ (setOut l c s).pst = s.pst ∧
    (setOut l c s).se.inCtx = s.se.inCtx ∧ (setOut l c s).se.peerSilent = s.se.peerSilent ∧
    (setOut l c s).se.flip = s.se.flip ∧ (setOut l c s).ohl = s.ohl ∧ (setOut l c s).sws = s.sws ∧
    (setOut l c s).cal = s.cal ∧ (setOut l c s).trp = s.trp ∧ (setOut l c s).mgp = s.mgp ∧
    (setOut l c s).prc = s.prc ∧ (setOut l c s).modemOut = s.modemOut ∧ (setOut l c s).shares = s.shares ∧
    (setOut l c s).pending = s.pending := by
  constructorm* _ ∧ _ <;> rfl

@[simp] theorem setGrader_frame (l : Lane) (g : LaneGrader) (s : State) :
    (setGrader l g s).mdp = s.mdp ∧ (setGrader l g s).pst = s.pst ∧ (setGrader l g s).se = s.se ∧
    (setGrader l g s).ohl = s.ohl ∧ (setGrader l g s).sws = s.sws ∧ (setGrader l g s).cal = s.cal ∧
    (setGrader l g s).trp = s.trp ∧ (setGrader l g s).mgp = s.mgp ∧ (setGrader l g s).prc = s.prc ∧
    (setGrader l g s).modemOut = s.modemOut ∧ (setGrader l g s).shares = s.shares ∧
    (setGrader l g s).pending = s.pending := by
  constructorm* _ ∧ _ <;> rfl

@[simp] theorem setCoordinator_frame (c : Coordinator) (s : State) :
    (setCoordinator c s).mdp = s.mdp ∧ (setCoordinator c s).qg = s.qg ∧ (setCoordinator c s).pst = s.pst ∧
    (setCoordinator c s).se.inCtx = s.se.inCtx ∧ (setCoordinator c s).se.outCtx = s.se.outCtx ∧
    (setCoordinator c s).se.peerSilent = s.se.peerSilent ∧ (setCoordinator c s).ohl = s.ohl ∧
    (setCoordinator c s).sws = s.sws ∧ (setCoordinator c s).cal = s.cal ∧ (setCoordinator c s).trp = s.trp ∧
    (setCoordinator c s).mgp = s.mgp ∧ (setCoordinator c s).prc = s.prc ∧
    (setCoordinator c s).modemOut = s.modemOut ∧ (setCoordinator c s).shares = s.shares ∧
    (setCoordinator c s).pending = s.pending := by
  constructorm* _ ∧ _ <;> rfl

@[simp] theorem setPeerSilent_frame (mark : Bool) (s : State) :
    (setPeerSilent mark s).mdp = s.mdp ∧ (setPeerSilent mark s).qg = s.qg ∧ (setPeerSilent mark s).pst = s.pst ∧
    (setPeerSilent mark s).se.inCtx = s.se.inCtx ∧ (setPeerSilent mark s).se.outCtx = s.se.outCtx ∧
    (setPeerSilent mark s).se.flip = s.se.flip ∧ (setPeerSilent mark s).ohl = s.ohl ∧
    (setPeerSilent mark s).sws = s.sws ∧ (setPeerSilent mark s).cal = s.cal ∧
    (setPeerSilent mark s).trp = s.trp ∧ (setPeerSilent mark s).mgp = s.mgp ∧
    (setPeerSilent mark s).prc = s.prc ∧ (setPeerSilent mark s).modemOut = s.modemOut ∧
    (setPeerSilent mark s).shares = s.shares ∧ (setPeerSilent mark s).pending = s.pending := by
  constructorm* _ ∧ _ <;> rfl

@[simp] theorem setTx_frame (t : Transmitter) (s : State) :
    (setTx t s).mdp = s.mdp ∧ (setTx t s).qg = s.qg ∧ (setTx t s).pst = s.pst ∧ (setTx t s).se = s.se ∧
    (setTx t s).ohl.deframer = s.ohl.deframer ∧ (setTx t s).ohl.lock = s.ohl.lock ∧
    (setTx t s).ohl.silence = s.ohl.silence ∧ (setTx t s).ohl.beacon = s.ohl.beacon ∧
    (setTx t s).ohl.far = s.ohl.far ∧ (setTx t s).sws = s.sws ∧ (setTx t s).cal = s.cal ∧
    (setTx t s).trp = s.trp ∧ (setTx t s).mgp = s.mgp ∧ (setTx t s).prc = s.prc ∧
    (setTx t s).modemOut = s.modemOut ∧ (setTx t s).shares = s.shares ∧ (setTx t s).pending = s.pending := by
  constructorm* _ ∧ _ <;> rfl

@[simp] theorem setDeframer_frame (d : Deframer) (s : State) :
    (setDeframer d s).mdp = s.mdp ∧ (setDeframer d s).qg = s.qg ∧ (setDeframer d s).pst = s.pst ∧
    (setDeframer d s).se = s.se ∧ (setDeframer d s).ohl.lock = s.ohl.lock ∧
    (setDeframer d s).ohl.silence = s.ohl.silence ∧ (setDeframer d s).ohl.beacon = s.ohl.beacon ∧
    (setDeframer d s).ohl.tx = s.ohl.tx ∧ (setDeframer d s).ohl.far = s.ohl.far ∧
    (setDeframer d s).sws = s.sws ∧ (setDeframer d s).cal = s.cal ∧ (setDeframer d s).trp = s.trp ∧
    (setDeframer d s).mgp = s.mgp ∧ (setDeframer d s).prc = s.prc ∧ (setDeframer d s).modemOut = s.modemOut ∧
    (setDeframer d s).shares = s.shares ∧ (setDeframer d s).pending = s.pending := by
  constructorm* _ ∧ _ <;> rfl

@[simp] theorem setLock_frame (k : OffsetLock) (s : State) :
    (setLock k s).mdp = s.mdp ∧ (setLock k s).qg = s.qg ∧ (setLock k s).pst = s.pst ∧ (setLock k s).se = s.se ∧
    (setLock k s).ohl.deframer = s.ohl.deframer ∧ (setLock k s).ohl.silence = s.ohl.silence ∧
    (setLock k s).ohl.beacon = s.ohl.beacon ∧ (setLock k s).ohl.tx = s.ohl.tx ∧
    (setLock k s).ohl.far = s.ohl.far ∧ (setLock k s).sws = s.sws ∧ (setLock k s).cal = s.cal ∧
    (setLock k s).trp = s.trp ∧ (setLock k s).mgp = s.mgp ∧ (setLock k s).prc = s.prc ∧
    (setLock k s).modemOut = s.modemOut ∧ (setLock k s).shares = s.shares ∧ (setLock k s).pending = s.pending := by
  constructorm* _ ∧ _ <;> rfl

@[simp] theorem setSilence_frame (n : Nat) (s : State) :
    (setSilence n s).mdp = s.mdp ∧ (setSilence n s).qg = s.qg ∧ (setSilence n s).pst = s.pst ∧
    (setSilence n s).se = s.se ∧ (setSilence n s).ohl.deframer = s.ohl.deframer ∧
    (setSilence n s).ohl.lock = s.ohl.lock ∧ (setSilence n s).ohl.beacon = s.ohl.beacon ∧
    (setSilence n s).ohl.tx = s.ohl.tx ∧ (setSilence n s).ohl.far = s.ohl.far ∧ (setSilence n s).sws = s.sws ∧
    (setSilence n s).cal = s.cal ∧ (setSilence n s).trp = s.trp ∧ (setSilence n s).mgp = s.mgp ∧
    (setSilence n s).prc = s.prc ∧ (setSilence n s).modemOut = s.modemOut ∧ (setSilence n s).shares = s.shares ∧
    (setSilence n s).pending = s.pending := by
  constructorm* _ ∧ _ <;> rfl

@[simp] theorem setBeaconTimer_frame (n : Nat) (s : State) :
    (setBeaconTimer n s).mdp = s.mdp ∧ (setBeaconTimer n s).qg = s.qg ∧ (setBeaconTimer n s).pst = s.pst ∧
    (setBeaconTimer n s).se = s.se ∧ (setBeaconTimer n s).ohl.deframer = s.ohl.deframer ∧
    (setBeaconTimer n s).ohl.lock = s.ohl.lock ∧ (setBeaconTimer n s).ohl.silence = s.ohl.silence ∧
    (setBeaconTimer n s).ohl.tx = s.ohl.tx ∧ (setBeaconTimer n s).ohl.far = s.ohl.far ∧
    (setBeaconTimer n s).sws = s.sws ∧ (setBeaconTimer n s).cal = s.cal ∧ (setBeaconTimer n s).trp = s.trp ∧
    (setBeaconTimer n s).mgp = s.mgp ∧ (setBeaconTimer n s).prc = s.prc ∧
    (setBeaconTimer n s).modemOut = s.modemOut ∧ (setBeaconTimer n s).shares = s.shares ∧
    (setBeaconTimer n s).pending = s.pending := by
  constructorm* _ ∧ _ <;> rfl

@[simp] theorem setSchedule_frame (es : List Entry) (s : State) :
    (setSchedule es s).mdp = s.mdp ∧ (setSchedule es s).qg = s.qg ∧ (setSchedule es s).pst = s.pst ∧
    (setSchedule es s).se = s.se ∧ (setSchedule es s).ohl = s.ohl ∧ (setSchedule es s).cal = s.cal ∧
    (setSchedule es s).trp = s.trp ∧ (setSchedule es s).mgp = s.mgp ∧ (setSchedule es s).prc = s.prc ∧
    (setSchedule es s).modemOut = s.modemOut ∧ (setSchedule es s).shares = s.shares ∧
    (setSchedule es s).pending = s.pending := by
  constructorm* _ ∧ _ <;> rfl

@[simp] theorem setStatus_frame (x : StagedStatus) (s : State) :
    (setStatus x s).mdp = s.mdp ∧ (setStatus x s).qg = s.qg ∧ (setStatus x s).pst.bankA = s.pst.bankA ∧
    (setStatus x s).pst.bankB = s.pst.bankB ∧ (setStatus x s).pst.live = s.pst.live ∧
    (setStatus x s).pst.digestA = s.pst.digestA ∧ (setStatus x s).pst.digestB = s.pst.digestB ∧
    (setStatus x s).pst.masks = s.pst.masks ∧ (setStatus x s).se = s.se ∧ (setStatus x s).ohl = s.ohl ∧
    (setStatus x s).sws = s.sws ∧ (setStatus x s).cal = s.cal ∧ (setStatus x s).trp = s.trp ∧
    (setStatus x s).mgp = s.mgp ∧ (setStatus x s).prc = s.prc ∧ (setStatus x s).modemOut = s.modemOut ∧
    (setStatus x s).shares = s.shares ∧ (setStatus x s).pending = s.pending := by
  constructorm* _ ∧ _ <;> rfl

@[simp] theorem setTrp_frame (t : Trp) (s : State) :
    (setTrp t s).mdp = s.mdp ∧ (setTrp t s).qg = s.qg ∧ (setTrp t s).pst = s.pst ∧ (setTrp t s).se = s.se ∧
    (setTrp t s).ohl = s.ohl ∧ (setTrp t s).sws = s.sws ∧ (setTrp t s).cal = s.cal ∧ (setTrp t s).mgp = s.mgp ∧
    (setTrp t s).prc = s.prc ∧ (setTrp t s).modemOut = s.modemOut ∧ (setTrp t s).shares = s.shares ∧
    (setTrp t s).pending = s.pending := by
  constructorm* _ ∧ _ <;> rfl

@[simp] theorem setResponse_frame (r : Option Response) (s : State) :
    (setResponse r s).mdp = s.mdp ∧ (setResponse r s).qg = s.qg ∧ (setResponse r s).pst = s.pst ∧
    (setResponse r s).se = s.se ∧ (setResponse r s).ohl = s.ohl ∧ (setResponse r s).sws = s.sws ∧
    (setResponse r s).cal = s.cal ∧ (setResponse r s).trp = s.trp ∧
    (setResponse r s).mgp.cursor = s.mgp.cursor ∧ (setResponse r s).mgp.flags = s.mgp.flags ∧
    (setResponse r s).mgp.enables = s.mgp.enables ∧ (setResponse r s).mgp.laneParams = s.mgp.laneParams ∧
    (setResponse r s).mgp.params = s.mgp.params ∧ (setResponse r s).prc = s.prc ∧
    (setResponse r s).modemOut = s.modemOut ∧ (setResponse r s).shares = s.shares ∧
    (setResponse r s).pending = s.pending := by
  constructorm* _ ∧ _ <;> rfl

@[simp] theorem setBuilding_frame (r : SecondsRecord) (s : State) :
    (setBuilding r s).mdp = s.mdp ∧ (setBuilding r s).qg = s.qg ∧ (setBuilding r s).pst = s.pst ∧
    (setBuilding r s).se = s.se ∧ (setBuilding r s).ohl = s.ohl ∧ (setBuilding r s).sws = s.sws ∧
    (setBuilding r s).cal = s.cal ∧ (setBuilding r s).trp = s.trp ∧ (setBuilding r s).mgp = s.mgp ∧
    (setBuilding r s).prc.counters = s.prc.counters ∧ (setBuilding r s).prc.ring = s.prc.ring ∧
    (setBuilding r s).prc.second = s.prc.second ∧ (setBuilding r s).prc.histogram = s.prc.histogram ∧
    (setBuilding r s).modemOut = s.modemOut ∧ (setBuilding r s).shares = s.shares ∧
    (setBuilding r s).pending = s.pending := by
  constructorm* _ ∧ _ <;> rfl

@[simp] theorem setSecond_frame (l : Lane) (x : LaneSecond) (s : State) :
    (setSecond l x s).mdp = s.mdp ∧ (setSecond l x s).qg = s.qg ∧ (setSecond l x s).pst = s.pst ∧
    (setSecond l x s).se = s.se ∧ (setSecond l x s).ohl = s.ohl ∧ (setSecond l x s).sws = s.sws ∧
    (setSecond l x s).cal = s.cal ∧ (setSecond l x s).trp = s.trp ∧ (setSecond l x s).mgp = s.mgp ∧
    (setSecond l x s).prc.counters = s.prc.counters ∧ (setSecond l x s).prc.ring = s.prc.ring ∧
    (setSecond l x s).prc.second = s.prc.second ∧ (setSecond l x s).prc.histogram = s.prc.histogram ∧
    (setSecond l x s).modemOut = s.modemOut ∧ (setSecond l x s).shares = s.shares ∧
    (setSecond l x s).pending = s.pending := by
  constructorm* _ ∧ _ <;> rfl

@[simp] theorem raise_frame (f : Flag) (s : State) :
    (raise f s).mdp = s.mdp ∧ (raise f s).qg = s.qg ∧ (raise f s).pst = s.pst ∧ (raise f s).se = s.se ∧
    (raise f s).ohl = s.ohl ∧ (raise f s).sws = s.sws ∧ (raise f s).cal = s.cal ∧ (raise f s).trp = s.trp ∧
    (raise f s).mgp.cursor = s.mgp.cursor ∧ (raise f s).mgp.enables = s.mgp.enables ∧
    (raise f s).mgp.laneParams = s.mgp.laneParams ∧ (raise f s).mgp.params = s.mgp.params ∧
    (raise f s).mgp.response = s.mgp.response ∧ (raise f s).prc = s.prc ∧ (raise f s).modemOut = s.modemOut ∧
    (raise f s).shares = s.shares ∧ (raise f s).pending = s.pending := by
  constructorm* _ ∧ _ <;> rfl

@[simp] theorem bump_frame (c : Counter) (s : State) :
    (bump c s).mdp = s.mdp ∧ (bump c s).qg = s.qg ∧ (bump c s).pst = s.pst ∧ (bump c s).se = s.se ∧
    (bump c s).ohl = s.ohl ∧ (bump c s).sws = s.sws ∧ (bump c s).cal = s.cal ∧ (bump c s).trp = s.trp ∧
    (bump c s).mgp.cursor = s.mgp.cursor ∧ (bump c s).mgp.enables = s.mgp.enables ∧
    (bump c s).mgp.laneParams = s.mgp.laneParams ∧ (bump c s).mgp.params = s.mgp.params ∧
    (bump c s).mgp.response = s.mgp.response ∧ (bump c s).prc.ring = s.prc.ring ∧
    (bump c s).prc.building = s.prc.building ∧ (bump c s).prc.second = s.prc.second ∧
    (bump c s).prc.histogram = s.prc.histogram ∧ (bump c s).modemOut = s.modemOut ∧
    (bump c s).shares = s.shares ∧ (bump c s).pending = s.pending := by
  simp only [bump]; (repeat' split) <;> simp

/-! ## Flags and counters -/

@[simp] theorem raise_flags (f : Flag) (s : State) :
    (raise f s).mgp.flags = s.mgp.flags ||| BitVec.twoPow 12 f.position := rfl

/-- A raised flag is set, and every flag that was set stays set (R178). -/
theorem raise_flagSet (f g : Flag) (s : State) : (raise f s).flagSet g = (s.flagSet g || g == f) := by
  cases f <;> cases g <;> simp [State.flagSet, Flag.position]

/-- The counter that a bump names, after it (R181). -/
theorem bump_counter_self (c : Counter) (s : State) (h : s.counter c ≤ 65535) :
    (bump c s).counter c = min 65535 (s.counter c + 1) := by
  by_cases h1 : s.counter c < 65535
  · by_cases h2 : s.counter c + 1 = 65535 <;>
      simp [bump, Config.counterMax, State.counter, raise] at h1 h2 ⊢ <;> simp [h1, h2]
  · have e : bump c s = s := by simp [bump, Config.counterMax, h1]
    rw [e]; omega

/-- The other counters, after a bump (R181). -/
theorem bump_counter_other (c d : Counter) (s : State) (h : c.place ≠ d.place) :
    (bump c s).counter d = s.counter d := by
  have h' : (c.place : Nat) ≠ d.place := fun e => h (Fin.ext e)
  by_cases h1 : s.counter c < 65535
  · by_cases h2 : s.counter c + 1 = 65535 <;>
      simp [bump, Config.counterMax, State.counter, raise] at h1 h2 ⊢ <;> simp [h1, h2, h']
  · have e : bump c s = s := by simp [bump, Config.counterMax, h1]
    rw [e]

/-- Everything a bump can do: add one, reach the limit and raise COUNTER-LIMIT, or leave a full counter (R181). -/
theorem bump_cases (c : Counter) (s : State) :
    (s.counter c + 1 < 65535 ∧
      bump c s = { s with prc := { s.prc with counters := s.prc.counters.set c.place (s.counter c + 1) } }) ∨
    (s.counter c + 1 = 65535 ∧
      bump c s = raise .counterLimit { s with prc := { s.prc with counters := s.prc.counters.set c.place 65535 } }) ∨
    (65535 ≤ s.counter c ∧ bump c s = s) := by
  by_cases h : s.counter c < 65535
  · by_cases h2 : s.counter c + 1 = 65535
    · exact .inr (.inl ⟨h2, by simp [bump, Config.counterMax, h, h2]⟩)
    · exact .inl ⟨by omega, by simp [bump, Config.counterMax, h, h2]⟩
  · exact .inr (.inr ⟨by omega, by simp [bump, Config.counterMax, h]⟩)

/-- An update that neither reads nor writes the counters and the flags commutes with a bump (R181). -/
theorem bump_commutes (c : Counter) (f : State → State) (hc : ∀ s, (f s).counter c = s.counter c)
    (h1 : ∀ s v, f { s with prc := { s.prc with counters := s.prc.counters.set c.place v } } =
      { f s with prc := { (f s).prc with counters := (f s).prc.counters.set c.place v } })
    (h2 : ∀ s, f (raise .counterLimit s) = raise .counterLimit (f s)) (s : State) :
    f (bump c s) = bump c (f s) := by
  rcases bump_cases c s with ⟨a, e⟩ | ⟨a, e⟩ | ⟨a, e⟩ <;>
    rcases bump_cases c (f s) with ⟨b, e'⟩ | ⟨b, e'⟩ | ⟨b, e'⟩ <;> rw [hc] at * <;>
    first
      | (exfalso; omega)
      | (rw [e, e']; simp only [h1, h2])
      | rw [e, e']

end Sys2Proof.Machine
end

