-- ==== Sys2Proof/Laws/Traffic.lean ====
section
/-! SUPPORT. What the traffic port, the allocator and the switch schedule write, and what they leave alone. -/

namespace Sys2Proof.Machine

/-- A field that no step of a fold changes. -/
theorem foldl_keeps {α β : Type} (g : State → α) (f : State → β → State) (h : ∀ s b, g (f s b) = g s)
    (l : List β) (s : State) : g (l.foldl f s) = g s := by
  induction l generalizing s with
  | nil => rfl
  | cons b l ih => simp [ih, h]

@[simp] theorem setLiveMap_live (d : Dir) (m : SlotMap) (s : State) :
    (setLiveMap d m s).cal.live = s.cal.live.set d m := rfl

@[simp] theorem scheduleEntry_sws (e : Entry) (s : State) :
    (scheduleEntry e s).sws = insertSorted s.sfn e (withoutOwner e.owner s.sws) := rfl

/-! ## What each operation leaves alone -/

@[simp] theorem tryBegin_frame (s : State) :
    (tryBegin s).mdp = s.mdp ∧ (tryBegin s).qg = s.qg ∧ (tryBegin s).pst = s.pst ∧ (tryBegin s).se = s.se ∧
    (tryBegin s).ohl = s.ohl ∧ (tryBegin s).sws = s.sws ∧ (tryBegin s).cal = s.cal ∧ (tryBegin s).mgp = s.mgp ∧
    (tryBegin s).prc = s.prc ∧ (tryBegin s).modemOut = s.modemOut ∧ (tryBegin s).shares = s.shares ∧
    (tryBegin s).pending = s.pending := by
  simp only [tryBegin]; (repeat' split) <;> simp

@[simp] theorem handNotice_frame (n : Notice) (s : State) :
    (handNotice n s).mdp = s.mdp ∧ (handNotice n s).qg = s.qg ∧ (handNotice n s).pst = s.pst ∧
    (handNotice n s).se = s.se ∧ (handNotice n s).ohl = s.ohl ∧ (handNotice n s).sws = s.sws ∧
    (handNotice n s).cal = s.cal ∧ (handNotice n s).mgp.cursor = s.mgp.cursor ∧
    (handNotice n s).mgp.enables = s.mgp.enables ∧ (handNotice n s).mgp.laneParams = s.mgp.laneParams ∧
    (handNotice n s).mgp.params = s.mgp.params ∧ (handNotice n s).mgp.response = s.mgp.response ∧
    (handNotice n s).prc = s.prc ∧ (handNotice n s).modemOut = s.modemOut ∧ (handNotice n s).shares = s.shares ∧
    (handNotice n s).pending = s.pending := by
  simp only [handNotice]; (repeat' split) <;> simp

@[simp] theorem updateBlock_frame (old : SlotMap) (new : SlotMap) (s : State) (c : ClassNo) :
    (updateBlock old new s c).mdp = s.mdp ∧ (updateBlock old new s c).qg = s.qg ∧
    (updateBlock old new s c).pst = s.pst ∧ (updateBlock old new s c).se = s.se ∧
    (updateBlock old new s c).ohl = s.ohl ∧ (updateBlock old new s c).sws = s.sws ∧
    (updateBlock old new s c).cal.live = s.cal.live ∧ (updateBlock old new s c).mgp.cursor = s.mgp.cursor ∧
    (updateBlock old new s c).mgp.enables = s.mgp.enables ∧
    (updateBlock old new s c).mgp.laneParams = s.mgp.laneParams ∧
    (updateBlock old new s c).mgp.params = s.mgp.params ∧
    (updateBlock old new s c).mgp.response = s.mgp.response ∧ (updateBlock old new s c).prc = s.prc ∧
    (updateBlock old new s c).modemOut = s.modemOut ∧ (updateBlock old new s c).shares = s.shares ∧
    (updateBlock old new s c).pending = s.pending := by
  simp only [updateBlock]; (repeat' split) <;> simp

@[simp] theorem updateBlocks_frame (old : SlotMap) (new : SlotMap) (s : State) :
    (updateBlocks old new s).mdp = s.mdp ∧ (updateBlocks old new s).qg = s.qg ∧
    (updateBlocks old new s).pst = s.pst ∧ (updateBlocks old new s).se = s.se ∧
    (updateBlocks old new s).ohl = s.ohl ∧ (updateBlocks old new s).sws = s.sws ∧
    (updateBlocks old new s).cal.live = s.cal.live ∧ (updateBlocks old new s).mgp.cursor = s.mgp.cursor ∧
    (updateBlocks old new s).mgp.enables = s.mgp.enables ∧
    (updateBlocks old new s).mgp.laneParams = s.mgp.laneParams ∧
    (updateBlocks old new s).mgp.params = s.mgp.params ∧
    (updateBlocks old new s).mgp.response = s.mgp.response ∧ (updateBlocks old new s).prc = s.prc ∧
    (updateBlocks old new s).modemOut = s.modemOut ∧ (updateBlocks old new s).shares = s.shares ∧
    (updateBlocks old new s).pending = s.pending := by
  unfold updateBlocks
  refine ⟨foldl_keeps (fun t => t.mdp) _ (by intro t c; simp) _ _,
    foldl_keeps (fun t => t.qg) _ (by intro t c; simp) _ _,
    foldl_keeps (fun t => t.pst) _ (by intro t c; simp) _ _,
    foldl_keeps (fun t => t.se) _ (by intro t c; simp) _ _,
    foldl_keeps (fun t => t.ohl) _ (by intro t c; simp) _ _,
    foldl_keeps (fun t => t.sws) _ (by intro t c; simp) _ _,
    foldl_keeps (fun t => t.cal.live) _ (by intro t c; simp) _ _,
    foldl_keeps (fun t => t.mgp.cursor) _ (by intro t c; simp) _ _,
    foldl_keeps (fun t => t.mgp.enables) _ (by intro t c; simp) _ _,
    foldl_keeps (fun t => t.mgp.laneParams) _ (by intro t c; simp) _ _,
    foldl_keeps (fun t => t.mgp.params) _ (by intro t c; simp) _ _,
    foldl_keeps (fun t => t.mgp.response) _ (by intro t c; simp) _ _,
    foldl_keeps (fun t => t.prc) _ (by intro t c; simp) _ _,
    foldl_keeps (fun t => t.modemOut) _ (by intro t c; simp) _ _,
    foldl_keeps (fun t => t.shares) _ (by intro t c; simp) _ _,
    foldl_keeps (fun t => t.pending) _ (by intro t c; simp) _ _⟩

@[simp] theorem setLiveMap_frame (d : Dir) (m : SlotMap) (s : State) :
    (setLiveMap d m s).mdp = s.mdp ∧ (setLiveMap d m s).qg = s.qg ∧ (setLiveMap d m s).pst = s.pst ∧
    (setLiveMap d m s).se = s.se ∧ (setLiveMap d m s).ohl = s.ohl ∧ (setLiveMap d m s).sws = s.sws ∧
    (setLiveMap d m s).cal.blocked = s.cal.blocked ∧ (setLiveMap d m s).trp = s.trp ∧
    (setLiveMap d m s).mgp = s.mgp ∧ (setLiveMap d m s).prc = s.prc ∧ (setLiveMap d m s).modemOut = s.modemOut ∧
    (setLiveMap d m s).shares = s.shares ∧ (setLiveMap d m s).pending = s.pending := by
  constructorm* _ ∧ _ <;> rfl

@[simp] theorem recomputeLive_frame (d : Dir) (epoch : Sfn) (s : State) :
    (recomputeLive d epoch s).mdp = s.mdp ∧ (recomputeLive d epoch s).qg = s.qg ∧
    (recomputeLive d epoch s).pst = s.pst ∧ (recomputeLive d epoch s).se = s.se ∧
    (recomputeLive d epoch s).ohl = s.ohl ∧ (recomputeLive d epoch s).sws = s.sws ∧
    (recomputeLive d epoch s).mgp.cursor = s.mgp.cursor ∧
    (recomputeLive d epoch s).mgp.enables = s.mgp.enables ∧
    (recomputeLive d epoch s).mgp.laneParams = s.mgp.laneParams ∧
    (recomputeLive d epoch s).mgp.params = s.mgp.params ∧
    (recomputeLive d epoch s).mgp.response = s.mgp.response ∧ (recomputeLive d epoch s).prc = s.prc ∧
    (recomputeLive d epoch s).modemOut = s.modemOut ∧ (recomputeLive d epoch s).shares = s.shares ∧
    (recomputeLive d epoch s).pending = s.pending := by
  simp only [recomputeLive]; (repeat' split) <;> simp

@[simp] theorem recomputeBoth_frame (epoch : Sfn) (s : State) :
    (recomputeBoth epoch s).mdp = s.mdp ∧ (recomputeBoth epoch s).qg = s.qg ∧
    (recomputeBoth epoch s).pst = s.pst ∧ (recomputeBoth epoch s).se = s.se ∧
    (recomputeBoth epoch s).ohl = s.ohl ∧ (recomputeBoth epoch s).sws = s.sws ∧
    (recomputeBoth epoch s).mgp.cursor = s.mgp.cursor ∧ (recomputeBoth epoch s).mgp.enables = s.mgp.enables ∧
    (recomputeBoth epoch s).mgp.laneParams = s.mgp.laneParams ∧
    (recomputeBoth epoch s).mgp.params = s.mgp.params ∧ (recomputeBoth epoch s).mgp.response = s.mgp.response ∧
    (recomputeBoth epoch s).prc = s.prc ∧ (recomputeBoth epoch s).modemOut = s.modemOut ∧
    (recomputeBoth epoch s).shares = s.shares ∧ (recomputeBoth epoch s).pending = s.pending := by
  simp [recomputeBoth]

@[simp] theorem forecast_frame (d : Dir) (epoch : Sfn) (s : State) :
    (forecast d epoch s).mdp = s.mdp ∧ (forecast d epoch s).qg = s.qg ∧ (forecast d epoch s).pst = s.pst ∧
    (forecast d epoch s).se = s.se ∧ (forecast d epoch s).ohl = s.ohl ∧ (forecast d epoch s).sws = s.sws ∧
    (forecast d epoch s).cal = s.cal ∧ (forecast d epoch s).mgp.cursor = s.mgp.cursor ∧
    (forecast d epoch s).mgp.enables = s.mgp.enables ∧ (forecast d epoch s).mgp.laneParams = s.mgp.laneParams ∧
    (forecast d epoch s).mgp.params = s.mgp.params ∧ (forecast d epoch s).mgp.response = s.mgp.response ∧
    (forecast d epoch s).prc = s.prc ∧ (forecast d epoch s).modemOut = s.modemOut ∧
    (forecast d epoch s).shares = s.shares ∧ (forecast d epoch s).pending = s.pending := by
  simp [forecast]

@[simp] theorem withdraw_frame (d : Dir) (epoch : Sfn) (s : State) :
    (withdraw d epoch s).mdp = s.mdp ∧ (withdraw d epoch s).qg = s.qg ∧ (withdraw d epoch s).pst = s.pst ∧
    (withdraw d epoch s).se = s.se ∧ (withdraw d epoch s).ohl = s.ohl ∧ (withdraw d epoch s).sws = s.sws ∧
    (withdraw d epoch s).cal = s.cal ∧ (withdraw d epoch s).mgp.cursor = s.mgp.cursor ∧
    (withdraw d epoch s).mgp.enables = s.mgp.enables ∧ (withdraw d epoch s).mgp.laneParams = s.mgp.laneParams ∧
    (withdraw d epoch s).mgp.params = s.mgp.params ∧ (withdraw d epoch s).mgp.response = s.mgp.response ∧
    (withdraw d epoch s).prc = s.prc ∧ (withdraw d epoch s).modemOut = s.modemOut ∧
    (withdraw d epoch s).shares = s.shares ∧ (withdraw d epoch s).pending = s.pending := by
  simp only [withdraw]; (repeat' split) <;> simp

@[simp] theorem scheduleEntry_frame (e : Entry) (s : State) :
    (scheduleEntry e s).mdp = s.mdp ∧ (scheduleEntry e s).qg = s.qg ∧ (scheduleEntry e s).pst = s.pst ∧
    (scheduleEntry e s).se = s.se ∧ (scheduleEntry e s).ohl = s.ohl ∧ (scheduleEntry e s).cal = s.cal ∧
    (scheduleEntry e s).trp = s.trp ∧ (scheduleEntry e s).mgp = s.mgp ∧ (scheduleEntry e s).prc = s.prc ∧
    (scheduleEntry e s).modemOut = s.modemOut ∧ (scheduleEntry e s).shares = s.shares ∧
    (scheduleEntry e s).pending = s.pending := by
  simp [scheduleEntry]

@[simp] theorem setOutState_frame (l : Lane) (x : OutState) (s : State) :
    (setOutState l x s).mdp = s.mdp ∧ (setOutState l x s).qg = s.qg ∧ (setOutState l x s).pst = s.pst ∧
    (setOutState l x s).se.inCtx = s.se.inCtx ∧ (setOutState l x s).se.peerSilent = s.se.peerSilent ∧
    (setOutState l x s).se.flip = s.se.flip ∧ (setOutState l x s).ohl = s.ohl ∧
    (setOutState l x s).sws = s.sws ∧ (setOutState l x s).cal = s.cal ∧ (setOutState l x s).trp = s.trp ∧
    (setOutState l x s).mgp = s.mgp ∧ (setOutState l x s).prc = s.prc ∧
    (setOutState l x s).modemOut = s.modemOut ∧ (setOutState l x s).shares = s.shares ∧
    (setOutState l x s).pending = s.pending := by
  simp [setOutState]

@[simp] theorem markScheduled_frame (d : Dir) (l : Lane) (s : State) :
    (markScheduled d l s).mdp = s.mdp ∧ (markScheduled d l s).qg = s.qg ∧ (markScheduled d l s).pst = s.pst ∧
    (markScheduled d l s).se.inCtx = s.se.inCtx ∧ (markScheduled d l s).se.peerSilent = s.se.peerSilent ∧
    (markScheduled d l s).se.flip = s.se.flip ∧ (markScheduled d l s).ohl = s.ohl ∧
    (markScheduled d l s).sws = s.sws ∧ (markScheduled d l s).cal = s.cal ∧ (markScheduled d l s).trp = s.trp ∧
    (markScheduled d l s).mgp = s.mgp ∧ (markScheduled d l s).prc = s.prc ∧
    (markScheduled d l s).modemOut = s.modemOut ∧ (markScheduled d l s).shares = s.shares ∧
    (markScheduled d l s).pending = s.pending := by
  simp only [markScheduled]; (repeat' split) <;> simp

@[simp] theorem insertDirection_frame (d : Dir) (l : Lane) (target : Profile) (epoch : Sfn) (source : EntrySource) (s : State) :
    (insertDirection d l target epoch source s).mdp = s.mdp ∧
    (insertDirection d l target epoch source s).qg = s.qg ∧
    (insertDirection d l target epoch source s).pst = s.pst ∧
    (insertDirection d l target epoch source s).se.inCtx = s.se.inCtx ∧
    (insertDirection d l target epoch source s).se.peerSilent = s.se.peerSilent ∧
    (insertDirection d l target epoch source s).se.flip = s.se.flip ∧
    (insertDirection d l target epoch source s).ohl = s.ohl ∧
    (insertDirection d l target epoch source s).cal = s.cal ∧
    (insertDirection d l target epoch source s).mgp.cursor = s.mgp.cursor ∧
    (insertDirection d l target epoch source s).mgp.enables = s.mgp.enables ∧
    (insertDirection d l target epoch source s).mgp.laneParams = s.mgp.laneParams ∧
    (insertDirection d l target epoch source s).mgp.params = s.mgp.params ∧
    (insertDirection d l target epoch source s).mgp.response = s.mgp.response ∧
    (insertDirection d l target epoch source s).prc = s.prc ∧
    (insertDirection d l target epoch source s).modemOut = s.modemOut ∧
    (insertDirection d l target epoch source s).shares = s.shares ∧
    (insertDirection d l target epoch source s).pending = s.pending := by
  simp only [insertDirection]; (repeat' split) <;> simp

@[simp] theorem removeDirection_frame (d : Dir) (l : Lane) (s : State) :
    (removeDirection d l s).mdp = s.mdp ∧ (removeDirection d l s).qg = s.qg ∧
    (removeDirection d l s).pst = s.pst ∧ (removeDirection d l s).se = s.se ∧
    (removeDirection d l s).ohl = s.ohl ∧ (removeDirection d l s).cal = s.cal ∧
    (removeDirection d l s).mgp.cursor = s.mgp.cursor ∧ (removeDirection d l s).mgp.enables = s.mgp.enables ∧
    (removeDirection d l s).mgp.laneParams = s.mgp.laneParams ∧
    (removeDirection d l s).mgp.params = s.mgp.params ∧ (removeDirection d l s).mgp.response = s.mgp.response ∧
    (removeDirection d l s).prc = s.prc ∧ (removeDirection d l s).modemOut = s.modemOut ∧
    (removeDirection d l s).shares = s.shares ∧ (removeDirection d l s).pending = s.pending := by
  simp only [removeDirection]; (repeat' split) <;> simp

@[simp] theorem withdrawAll_frame (es : List Entry) (s : State) :
    (withdrawAll es s).mdp = s.mdp ∧ (withdrawAll es s).qg = s.qg ∧ (withdrawAll es s).pst = s.pst ∧
    (withdrawAll es s).se = s.se ∧ (withdrawAll es s).ohl = s.ohl ∧ (withdrawAll es s).sws = s.sws ∧
    (withdrawAll es s).cal = s.cal ∧ (withdrawAll es s).mgp.cursor = s.mgp.cursor ∧
    (withdrawAll es s).mgp.enables = s.mgp.enables ∧ (withdrawAll es s).mgp.laneParams = s.mgp.laneParams ∧
    (withdrawAll es s).mgp.params = s.mgp.params ∧ (withdrawAll es s).mgp.response = s.mgp.response ∧
    (withdrawAll es s).prc = s.prc ∧ (withdrawAll es s).modemOut = s.modemOut ∧
    (withdrawAll es s).shares = s.shares ∧ (withdrawAll es s).pending = s.pending := by
  induction es generalizing s with
  | nil => constructorm* _ ∧ _ <;> rfl
  | cons e es ih =>
    simp only [withdrawAll, ih]
    split <;> simp

@[simp] theorem commitEntries_frame (s : State) :
    (commitEntries s).mdp = s.mdp ∧ (commitEntries s).qg = s.qg ∧ (commitEntries s).pst = s.pst ∧
    (commitEntries s).se = s.se ∧ (commitEntries s).ohl = s.ohl ∧ (commitEntries s).cal = s.cal ∧
    (commitEntries s).trp = s.trp ∧ (commitEntries s).mgp = s.mgp ∧ (commitEntries s).prc = s.prc ∧
    (commitEntries s).modemOut = s.modemOut ∧ (commitEntries s).shares = s.shares ∧
    (commitEntries s).pending = s.pending := by
  simp [commitEntries]

/-! ## What each operation does -/

/-- The port never lengthens its queue when it looks for a record to begin (R172). -/
theorem tryBegin_queue (s : State) : (tryBegin s).trp.queue.length ≤ s.trp.queue.length := by
  unfold tryBegin
  split
  · simp
  · split
    · simp
    · split
      · simp
      · split <;> simp_all

/-- The hold input is never written by the port itself. -/
@[simp] theorem tryBegin_hold (s : State) : (tryBegin s).trp.hold = s.trp.hold := by
  unfold tryBegin; (repeat' split) <;> simp

@[simp] theorem handNotice_hold (n : Notice) (s : State) : (handNotice n s).trp.hold = s.trp.hold := by
  unfold handNotice; split <;> simp

/-- A notice handed over keeps the queue within its sixteen places (R170, R171). -/
theorem handNotice_queue (n : Notice) (s : State) : (handNotice n s).trp.queue.length ≤ 16 := by
  unfold handNotice
  split
  · rename_i h
    refine (tryBegin_queue _).trans ?_
    simp [Config.noticeCapacity] at h ⊢; omega
  · exact (tryBegin_queue _).trans (by simp)

/-- A recomputation leaves the direction's live map as that of the state it was taken in (R161). -/
theorem recomputeLive_live (d : Dir) (epoch : Sfn) (s : State) :
    (recomputeLive d epoch s).cal.live = s.cal.live.set d (liveMapOf s d) := by
  cases d <;> simp [recomputeLive]

/-- What an inserted entry makes of the schedule's owners (R143). -/
theorem insertSorted_perm (n : Sfn) (e : Entry) (es : List Entry) : (insertSorted n e es).Perm (e :: es) := by
  induction es with
  | nil => exact List.Perm.refl _
  | cons x xs ih =>
    simp only [insertSorted]
    split
    · exact (ih.cons x).trans (List.Perm.swap e x xs)
    · exact List.Perm.refl _

/-- Everything an insertion of a direction entry can do to the schedule (R144). -/
theorem insertDirection_sws (d : Dir) (l : Lane) (target : Profile) (epoch : Sfn) (source : EntrySource) (s : State) :
    (insertDirection d l target epoch source s).sws =
      if mayInsert s (.context d l) epoch then
        insertSorted s.sfn ⟨.context d l target, epoch, source, false⟩ (withoutOwner (.context d l) s.sws)
      else s.sws := by
  unfold insertDirection
  split
  · simp only [forecast_frame]
    split
    · split <;> cases d <;> simp [markScheduled, Entry.owner, Switch.owner]
    · cases d <;> simp [markScheduled, Entry.owner, Switch.owner]
  · rfl

/-- Everything a removal can do to the schedule (R152). -/
theorem removeDirection_sws (d : Dir) (l : Lane) (s : State) :
    (removeDirection d l s).sws =
      if (s.entryOf d l).isSome then withoutOwner (.context d l) s.sws else s.sws := by
  unfold removeDirection
  split
  · rename_i e h; simp [h]
  · rename_i h; simp [h]

/-- The live profile of the lane that an insertion is for stays as it is. -/
theorem insertDirection_outProfile (d : Dir) (l m : Lane) (target : Profile) (epoch : Sfn) (source : EntrySource)
    (s : State) : ((insertDirection d l target epoch source s).se.outCtx.get m).pOut = (s.se.outCtx.get m).pOut := by
  unfold insertDirection
  split
  · simp only [forecast_frame]
    split
    · split <;> cases d <;> cases l <;> cases m <;>
        simp [markScheduled, setOutState, State.outCtx, setOut, PerLane.get, PerLane.set]
    · cases d <;> cases l <;> cases m <;>
        simp [markScheduled, setOutState, State.outCtx, setOut, PerLane.get, PerLane.set]
  · rfl

end Sys2Proof.Machine
end

