-- ==== Sys2Proof/Laws/Engine.lean ====
section
/-! SUPPORT. What the step engine and the flip coordinator leave alone, and what a decision can do. -/

namespace Sys2Proof.Machine

@[simp] theorem handAsk_frame (l : Lane) (m : AskMessage) (s : State) :
    (handAsk l m s).mdp = s.mdp ∧ (handAsk l m s).qg = s.qg ∧ (handAsk l m s).pst = s.pst ∧
    (handAsk l m s).se = s.se ∧ (handAsk l m s).ohl.deframer = s.ohl.deframer ∧
    (handAsk l m s).ohl.lock = s.ohl.lock ∧ (handAsk l m s).ohl.silence = s.ohl.silence ∧
    (handAsk l m s).ohl.beacon = s.ohl.beacon ∧ (handAsk l m s).ohl.far = s.ohl.far ∧
    (handAsk l m s).sws = s.sws ∧ (handAsk l m s).cal = s.cal ∧ (handAsk l m s).trp = s.trp ∧
    (handAsk l m s).mgp = s.mgp ∧ (handAsk l m s).prc = s.prc ∧ (handAsk l m s).modemOut = s.modemOut ∧
    (handAsk l m s).shares = s.shares ∧ (handAsk l m s).pending = s.pending := by
  simp [handAsk]

@[simp] theorem sendAskWith_frame (l : Lane) (target : Profile) (urgency : Urgency) (retries : Nat) (s : State) :
    (sendAskWith l target urgency retries s).mdp = s.mdp ∧ (sendAskWith l target urgency retries s).qg = s.qg ∧
    (sendAskWith l target urgency retries s).pst = s.pst ∧
    (sendAskWith l target urgency retries s).se.outCtx = s.se.outCtx ∧
    (sendAskWith l target urgency retries s).se.peerSilent = s.se.peerSilent ∧
    (sendAskWith l target urgency retries s).se.flip = s.se.flip ∧
    (sendAskWith l target urgency retries s).ohl.deframer = s.ohl.deframer ∧
    (sendAskWith l target urgency retries s).ohl.lock = s.ohl.lock ∧
    (sendAskWith l target urgency retries s).ohl.silence = s.ohl.silence ∧
    (sendAskWith l target urgency retries s).ohl.beacon = s.ohl.beacon ∧
    (sendAskWith l target urgency retries s).ohl.far = s.ohl.far ∧
    (sendAskWith l target urgency retries s).sws = s.sws ∧
    (sendAskWith l target urgency retries s).cal = s.cal ∧
    (sendAskWith l target urgency retries s).trp = s.trp ∧
    (sendAskWith l target urgency retries s).mgp.cursor = s.mgp.cursor ∧
    (sendAskWith l target urgency retries s).mgp.enables = s.mgp.enables ∧
    (sendAskWith l target urgency retries s).mgp.laneParams = s.mgp.laneParams ∧
    (sendAskWith l target urgency retries s).mgp.params = s.mgp.params ∧
    (sendAskWith l target urgency retries s).mgp.response = s.mgp.response ∧
    (sendAskWith l target urgency retries s).prc.ring = s.prc.ring ∧
    (sendAskWith l target urgency retries s).prc.building = s.prc.building ∧
    (sendAskWith l target urgency retries s).prc.second = s.prc.second ∧
    (sendAskWith l target urgency retries s).prc.histogram = s.prc.histogram ∧
    (sendAskWith l target urgency retries s).modemOut = s.modemOut ∧
    (sendAskWith l target urgency retries s).shares = s.shares ∧
    (sendAskWith l target urgency retries s).pending = s.pending := by
  simp [sendAskWith]

@[simp] theorem sendAsk_frame (l : Lane) (target : Profile) (urgency : Urgency) (s : State) :
    (sendAsk l target urgency s).mdp = s.mdp ∧ (sendAsk l target urgency s).qg = s.qg ∧
    (sendAsk l target urgency s).pst = s.pst ∧ (sendAsk l target urgency s).se.outCtx = s.se.outCtx ∧
    (sendAsk l target urgency s).se.peerSilent = s.se.peerSilent ∧
    (sendAsk l target urgency s).se.flip = s.se.flip ∧
    (sendAsk l target urgency s).ohl.deframer = s.ohl.deframer ∧
    (sendAsk l target urgency s).ohl.lock = s.ohl.lock ∧
    (sendAsk l target urgency s).ohl.silence = s.ohl.silence ∧
    (sendAsk l target urgency s).ohl.beacon = s.ohl.beacon ∧ (sendAsk l target urgency s).ohl.far = s.ohl.far ∧
    (sendAsk l target urgency s).sws = s.sws ∧ (sendAsk l target urgency s).cal = s.cal ∧
    (sendAsk l target urgency s).trp = s.trp ∧ (sendAsk l target urgency s).mgp.cursor = s.mgp.cursor ∧
    (sendAsk l target urgency s).mgp.enables = s.mgp.enables ∧
    (sendAsk l target urgency s).mgp.laneParams = s.mgp.laneParams ∧
    (sendAsk l target urgency s).mgp.params = s.mgp.params ∧
    (sendAsk l target urgency s).mgp.response = s.mgp.response ∧
    (sendAsk l target urgency s).prc.ring = s.prc.ring ∧
    (sendAsk l target urgency s).prc.building = s.prc.building ∧
    (sendAsk l target urgency s).prc.second = s.prc.second ∧
    (sendAsk l target urgency s).prc.histogram = s.prc.histogram ∧
    (sendAsk l target urgency s).modemOut = s.modemOut ∧ (sendAsk l target urgency s).shares = s.shares ∧
    (sendAsk l target urgency s).pending = s.pending := by
  simp [sendAsk]

@[simp] theorem clearUpHold_frame (l : Lane) (s : State) :
    (clearUpHold l s).mdp = s.mdp ∧ (clearUpHold l s).qg = s.qg ∧ (clearUpHold l s).pst = s.pst ∧
    (clearUpHold l s).se.outCtx = s.se.outCtx ∧ (clearUpHold l s).se.peerSilent = s.se.peerSilent ∧
    (clearUpHold l s).se.flip = s.se.flip ∧ (clearUpHold l s).ohl = s.ohl ∧ (clearUpHold l s).sws = s.sws ∧
    (clearUpHold l s).cal = s.cal ∧ (clearUpHold l s).trp = s.trp ∧ (clearUpHold l s).mgp = s.mgp ∧
    (clearUpHold l s).prc = s.prc ∧ (clearUpHold l s).modemOut = s.modemOut ∧
    (clearUpHold l s).shares = s.shares ∧ (clearUpHold l s).pending = s.pending := by
  simp [clearUpHold]

@[simp] theorem pinnedOrDown_frame (l : Lane) (urgency : Urgency) (s : State) :
    (pinnedOrDown l urgency s).1.mdp = s.mdp ∧ (pinnedOrDown l urgency s).1.qg = s.qg ∧
    (pinnedOrDown l urgency s).1.pst = s.pst ∧ (pinnedOrDown l urgency s).1.se.outCtx = s.se.outCtx ∧
    (pinnedOrDown l urgency s).1.se.peerSilent = s.se.peerSilent ∧
    (pinnedOrDown l urgency s).1.se.flip = s.se.flip ∧
    (pinnedOrDown l urgency s).1.ohl.deframer = s.ohl.deframer ∧
    (pinnedOrDown l urgency s).1.ohl.lock = s.ohl.lock ∧
    (pinnedOrDown l urgency s).1.ohl.silence = s.ohl.silence ∧
    (pinnedOrDown l urgency s).1.ohl.beacon = s.ohl.beacon ∧ (pinnedOrDown l urgency s).1.ohl.far = s.ohl.far ∧
    (pinnedOrDown l urgency s).1.sws = s.sws ∧ (pinnedOrDown l urgency s).1.cal = s.cal ∧
    (pinnedOrDown l urgency s).1.trp = s.trp ∧ (pinnedOrDown l urgency s).1.mgp.cursor = s.mgp.cursor ∧
    (pinnedOrDown l urgency s).1.mgp.enables = s.mgp.enables ∧
    (pinnedOrDown l urgency s).1.mgp.laneParams = s.mgp.laneParams ∧
    (pinnedOrDown l urgency s).1.mgp.params = s.mgp.params ∧
    (pinnedOrDown l urgency s).1.mgp.response = s.mgp.response ∧
    (pinnedOrDown l urgency s).1.prc.ring = s.prc.ring ∧
    (pinnedOrDown l urgency s).1.prc.building = s.prc.building ∧
    (pinnedOrDown l urgency s).1.prc.second = s.prc.second ∧
    (pinnedOrDown l urgency s).1.prc.histogram = s.prc.histogram ∧
    (pinnedOrDown l urgency s).1.modemOut = s.modemOut ∧ (pinnedOrDown l urgency s).1.shares = s.shares ∧
    (pinnedOrDown l urgency s).1.pending = s.pending := by
  simp only [pinnedOrDown]; (repeat' split) <;> simp

@[simp] theorem upRule_frame (l : Lane) (s : State) :
    (upRule l s).mdp = s.mdp ∧ (upRule l s).qg = s.qg ∧ (upRule l s).pst = s.pst ∧
    (upRule l s).se.outCtx = s.se.outCtx ∧ (upRule l s).se.peerSilent = s.se.peerSilent ∧
    (upRule l s).se.flip = s.se.flip ∧ (upRule l s).ohl.deframer = s.ohl.deframer ∧
    (upRule l s).ohl.lock = s.ohl.lock ∧ (upRule l s).ohl.silence = s.ohl.silence ∧
    (upRule l s).ohl.beacon = s.ohl.beacon ∧ (upRule l s).ohl.far = s.ohl.far ∧ (upRule l s).sws = s.sws ∧
    (upRule l s).cal = s.cal ∧ (upRule l s).trp = s.trp ∧ (upRule l s).mgp.cursor = s.mgp.cursor ∧
    (upRule l s).mgp.enables = s.mgp.enables ∧ (upRule l s).mgp.laneParams = s.mgp.laneParams ∧
    (upRule l s).mgp.params = s.mgp.params ∧ (upRule l s).mgp.response = s.mgp.response ∧
    (upRule l s).prc.ring = s.prc.ring ∧ (upRule l s).prc.building = s.prc.building ∧
    (upRule l s).prc.second = s.prc.second ∧ (upRule l s).prc.histogram = s.prc.histogram ∧
    (upRule l s).modemOut = s.modemOut ∧ (upRule l s).shares = s.shares ∧ (upRule l s).pending = s.pending := by
  simp only [upRule]; (repeat' split) <;> simp

@[simp] theorem recordDeferred_frame (l : Lane) (urgentCause : Bool) (s : State) :
    (recordDeferred l urgentCause s).mdp = s.mdp ∧ (recordDeferred l urgentCause s).qg = s.qg ∧
    (recordDeferred l urgentCause s).pst = s.pst ∧ (recordDeferred l urgentCause s).se.outCtx = s.se.outCtx ∧
    (recordDeferred l urgentCause s).se.peerSilent = s.se.peerSilent ∧
    (recordDeferred l urgentCause s).se.flip = s.se.flip ∧ (recordDeferred l urgentCause s).ohl = s.ohl ∧
    (recordDeferred l urgentCause s).sws = s.sws ∧ (recordDeferred l urgentCause s).cal = s.cal ∧
    (recordDeferred l urgentCause s).trp = s.trp ∧ (recordDeferred l urgentCause s).mgp = s.mgp ∧
    (recordDeferred l urgentCause s).prc = s.prc ∧ (recordDeferred l urgentCause s).modemOut = s.modemOut ∧
    (recordDeferred l urgentCause s).shares = s.shares ∧ (recordDeferred l urgentCause s).pending = s.pending := by
  simp only [recordDeferred]; (repeat' split) <;> simp

@[simp] theorem clearDeferred_frame (l : Lane) (s : State) :
    (clearDeferred l s).mdp = s.mdp ∧ (clearDeferred l s).qg = s.qg ∧ (clearDeferred l s).pst = s.pst ∧
    (clearDeferred l s).se.outCtx = s.se.outCtx ∧ (clearDeferred l s).se.peerSilent = s.se.peerSilent ∧
    (clearDeferred l s).se.flip = s.se.flip ∧ (clearDeferred l s).ohl = s.ohl ∧
    (clearDeferred l s).sws = s.sws ∧ (clearDeferred l s).cal = s.cal ∧ (clearDeferred l s).trp = s.trp ∧
    (clearDeferred l s).mgp = s.mgp ∧ (clearDeferred l s).prc = s.prc ∧
    (clearDeferred l s).modemOut = s.modemOut ∧ (clearDeferred l s).shares = s.shares ∧
    (clearDeferred l s).pending = s.pending := by
  simp [clearDeferred]

@[simp] theorem reDecide_frame (l : Lane) (urgency : Urgency) (s : State) :
    (reDecide l urgency s).mdp = s.mdp ∧ (reDecide l urgency s).qg = s.qg ∧ (reDecide l urgency s).pst = s.pst ∧
    (reDecide l urgency s).se.outCtx = s.se.outCtx ∧ (reDecide l urgency s).se.peerSilent = s.se.peerSilent ∧
    (reDecide l urgency s).se.flip = s.se.flip ∧ (reDecide l urgency s).ohl.deframer = s.ohl.deframer ∧
    (reDecide l urgency s).ohl.lock = s.ohl.lock ∧ (reDecide l urgency s).ohl.silence = s.ohl.silence ∧
    (reDecide l urgency s).ohl.beacon = s.ohl.beacon ∧ (reDecide l urgency s).ohl.far = s.ohl.far ∧
    (reDecide l urgency s).sws = s.sws ∧ (reDecide l urgency s).cal = s.cal ∧
    (reDecide l urgency s).trp = s.trp ∧ (reDecide l urgency s).mgp.cursor = s.mgp.cursor ∧
    (reDecide l urgency s).mgp.enables = s.mgp.enables ∧
    (reDecide l urgency s).mgp.laneParams = s.mgp.laneParams ∧
    (reDecide l urgency s).mgp.params = s.mgp.params ∧ (reDecide l urgency s).mgp.response = s.mgp.response ∧
    (reDecide l urgency s).prc.ring = s.prc.ring ∧ (reDecide l urgency s).prc.building = s.prc.building ∧
    (reDecide l urgency s).prc.second = s.prc.second ∧ (reDecide l urgency s).prc.histogram = s.prc.histogram ∧
    (reDecide l urgency s).modemOut = s.modemOut ∧ (reDecide l urgency s).shares = s.shares ∧
    (reDecide l urgency s).pending = s.pending := by
  simp only [reDecide]; (repeat' split) <;> simp

@[simp] theorem takeDeferred_frame (l : Lane) (s : State) :
    (takeDeferred l s).mdp = s.mdp ∧ (takeDeferred l s).qg = s.qg ∧ (takeDeferred l s).pst = s.pst ∧
    (takeDeferred l s).se.outCtx = s.se.outCtx ∧ (takeDeferred l s).se.peerSilent = s.se.peerSilent ∧
    (takeDeferred l s).se.flip = s.se.flip ∧ (takeDeferred l s).ohl.deframer = s.ohl.deframer ∧
    (takeDeferred l s).ohl.lock = s.ohl.lock ∧ (takeDeferred l s).ohl.silence = s.ohl.silence ∧
    (takeDeferred l s).ohl.beacon = s.ohl.beacon ∧ (takeDeferred l s).ohl.far = s.ohl.far ∧
    (takeDeferred l s).sws = s.sws ∧ (takeDeferred l s).cal = s.cal ∧ (takeDeferred l s).trp = s.trp ∧
    (takeDeferred l s).mgp.cursor = s.mgp.cursor ∧ (takeDeferred l s).mgp.enables = s.mgp.enables ∧
    (takeDeferred l s).mgp.laneParams = s.mgp.laneParams ∧ (takeDeferred l s).mgp.params = s.mgp.params ∧
    (takeDeferred l s).mgp.response = s.mgp.response ∧ (takeDeferred l s).prc.ring = s.prc.ring ∧
    (takeDeferred l s).prc.building = s.prc.building ∧ (takeDeferred l s).prc.second = s.prc.second ∧
    (takeDeferred l s).prc.histogram = s.prc.histogram ∧ (takeDeferred l s).modemOut = s.modemOut ∧
    (takeDeferred l s).shares = s.shares ∧ (takeDeferred l s).pending = s.pending := by
  simp only [takeDeferred]; (repeat' split) <;> simp

@[simp] theorem enterSteady_frame (l : Lane) (s : State) :
    (enterSteady l s).mdp = s.mdp ∧ (enterSteady l s).qg = s.qg ∧ (enterSteady l s).pst = s.pst ∧
    (enterSteady l s).se.outCtx = s.se.outCtx ∧ (enterSteady l s).se.peerSilent = s.se.peerSilent ∧
    (enterSteady l s).se.flip = s.se.flip ∧ (enterSteady l s).ohl.deframer = s.ohl.deframer ∧
    (enterSteady l s).ohl.lock = s.ohl.lock ∧ (enterSteady l s).ohl.silence = s.ohl.silence ∧
    (enterSteady l s).ohl.beacon = s.ohl.beacon ∧ (enterSteady l s).ohl.far = s.ohl.far ∧
    (enterSteady l s).sws = s.sws ∧ (enterSteady l s).cal = s.cal ∧ (enterSteady l s).trp = s.trp ∧
    (enterSteady l s).mgp.cursor = s.mgp.cursor ∧ (enterSteady l s).mgp.enables = s.mgp.enables ∧
    (enterSteady l s).mgp.laneParams = s.mgp.laneParams ∧ (enterSteady l s).mgp.params = s.mgp.params ∧
    (enterSteady l s).mgp.response = s.mgp.response ∧ (enterSteady l s).prc.ring = s.prc.ring ∧
    (enterSteady l s).prc.building = s.prc.building ∧ (enterSteady l s).prc.second = s.prc.second ∧
    (enterSteady l s).prc.histogram = s.prc.histogram ∧ (enterSteady l s).modemOut = s.modemOut ∧
    (enterSteady l s).shares = s.shares ∧ (enterSteady l s).pending = s.pending := by
  simp [enterSteady]

@[simp] theorem decideStep_frame (l : Lane) (k : UpdateKind) (s : State) :
    (decideStep l k s).mdp = s.mdp ∧ (decideStep l k s).qg = s.qg ∧ (decideStep l k s).pst = s.pst ∧
    (decideStep l k s).se.outCtx = s.se.outCtx ∧ (decideStep l k s).se.peerSilent = s.se.peerSilent ∧
    (decideStep l k s).se.flip = s.se.flip ∧ (decideStep l k s).ohl.deframer = s.ohl.deframer ∧
    (decideStep l k s).ohl.lock = s.ohl.lock ∧ (decideStep l k s).ohl.silence = s.ohl.silence ∧
    (decideStep l k s).ohl.beacon = s.ohl.beacon ∧ (decideStep l k s).ohl.far = s.ohl.far ∧
    (decideStep l k s).sws = s.sws ∧ (decideStep l k s).cal = s.cal ∧ (decideStep l k s).trp = s.trp ∧
    (decideStep l k s).mgp.cursor = s.mgp.cursor ∧ (decideStep l k s).mgp.enables = s.mgp.enables ∧
    (decideStep l k s).mgp.laneParams = s.mgp.laneParams ∧ (decideStep l k s).mgp.params = s.mgp.params ∧
    (decideStep l k s).mgp.response = s.mgp.response ∧ (decideStep l k s).prc.ring = s.prc.ring ∧
    (decideStep l k s).prc.building = s.prc.building ∧ (decideStep l k s).prc.second = s.prc.second ∧
    (decideStep l k s).prc.histogram = s.prc.histogram ∧ (decideStep l k s).modemOut = s.modemOut ∧
    (decideStep l k s).shares = s.shares ∧ (decideStep l k s).pending = s.pending := by
  simp only [decideStep]; (repeat' split) <;> simp

@[simp] theorem supersede_frame (l : Lane) (k : UpdateKind) (s : State) :
    (supersede l k s).mdp = s.mdp ∧ (supersede l k s).qg = s.qg ∧ (supersede l k s).pst = s.pst ∧
    (supersede l k s).se.outCtx = s.se.outCtx ∧ (supersede l k s).se.peerSilent = s.se.peerSilent ∧
    (supersede l k s).se.flip = s.se.flip ∧ (supersede l k s).ohl.deframer = s.ohl.deframer ∧
    (supersede l k s).ohl.lock = s.ohl.lock ∧ (supersede l k s).ohl.silence = s.ohl.silence ∧
    (supersede l k s).ohl.beacon = s.ohl.beacon ∧ (supersede l k s).ohl.far = s.ohl.far ∧
    (supersede l k s).sws = s.sws ∧ (supersede l k s).cal = s.cal ∧ (supersede l k s).trp = s.trp ∧
    (supersede l k s).mgp.cursor = s.mgp.cursor ∧ (supersede l k s).mgp.enables = s.mgp.enables ∧
    (supersede l k s).mgp.laneParams = s.mgp.laneParams ∧ (supersede l k s).mgp.params = s.mgp.params ∧
    (supersede l k s).mgp.response = s.mgp.response ∧ (supersede l k s).prc.ring = s.prc.ring ∧
    (supersede l k s).prc.building = s.prc.building ∧ (supersede l k s).prc.second = s.prc.second ∧
    (supersede l k s).prc.histogram = s.prc.histogram ∧ (supersede l k s).modemOut = s.modemOut ∧
    (supersede l k s).shares = s.shares ∧ (supersede l k s).pending = s.pending := by
  simp only [supersede]; (repeat' split) <;> simp

@[simp] theorem gradeUpdate_frame (l : Lane) (k : UpdateKind) (s : State) :
    (gradeUpdate l k s).mdp = s.mdp ∧ (gradeUpdate l k s).qg = s.qg ∧ (gradeUpdate l k s).pst = s.pst ∧
    (gradeUpdate l k s).se.outCtx = s.se.outCtx ∧ (gradeUpdate l k s).se.peerSilent = s.se.peerSilent ∧
    (gradeUpdate l k s).se.flip = s.se.flip ∧ (gradeUpdate l k s).ohl.deframer = s.ohl.deframer ∧
    (gradeUpdate l k s).ohl.lock = s.ohl.lock ∧ (gradeUpdate l k s).ohl.silence = s.ohl.silence ∧
    (gradeUpdate l k s).ohl.beacon = s.ohl.beacon ∧ (gradeUpdate l k s).ohl.far = s.ohl.far ∧
    (gradeUpdate l k s).sws = s.sws ∧ (gradeUpdate l k s).cal = s.cal ∧ (gradeUpdate l k s).trp = s.trp ∧
    (gradeUpdate l k s).mgp.cursor = s.mgp.cursor ∧ (gradeUpdate l k s).mgp.enables = s.mgp.enables ∧
    (gradeUpdate l k s).mgp.laneParams = s.mgp.laneParams ∧ (gradeUpdate l k s).mgp.params = s.mgp.params ∧
    (gradeUpdate l k s).mgp.response = s.mgp.response ∧ (gradeUpdate l k s).prc.ring = s.prc.ring ∧
    (gradeUpdate l k s).prc.building = s.prc.building ∧ (gradeUpdate l k s).prc.second = s.prc.second ∧
    (gradeUpdate l k s).prc.histogram = s.prc.histogram ∧ (gradeUpdate l k s).modemOut = s.modemOut ∧
    (gradeUpdate l k s).shares = s.shares ∧ (gradeUpdate l k s).pending = s.pending := by
  simp only [gradeUpdate]; (repeat' split) <;> simp

@[simp] theorem internalSwitch_frame (l : Lane) (target : Profile) (lead : Nat) (source : EntrySource) (s : State) :
    (internalSwitch l target lead source s).mdp = s.mdp ∧ (internalSwitch l target lead source s).qg = s.qg ∧
    (internalSwitch l target lead source s).pst = s.pst ∧
    (internalSwitch l target lead source s).se.inCtx = s.se.inCtx ∧
    (internalSwitch l target lead source s).se.peerSilent = s.se.peerSilent ∧
    (internalSwitch l target lead source s).se.flip = s.se.flip ∧
    (internalSwitch l target lead source s).ohl = s.ohl ∧ (internalSwitch l target lead source s).cal = s.cal ∧
    (internalSwitch l target lead source s).mgp.cursor = s.mgp.cursor ∧
    (internalSwitch l target lead source s).mgp.enables = s.mgp.enables ∧
    (internalSwitch l target lead source s).mgp.laneParams = s.mgp.laneParams ∧
    (internalSwitch l target lead source s).mgp.params = s.mgp.params ∧
    (internalSwitch l target lead source s).mgp.response = s.mgp.response ∧
    (internalSwitch l target lead source s).prc = s.prc ∧
    (internalSwitch l target lead source s).modemOut = s.modemOut ∧
    (internalSwitch l target lead source s).shares = s.shares ∧
    (internalSwitch l target lead source s).pending = s.pending := by
  simp only [internalSwitch]; (repeat' split) <;> simp

@[simp] theorem settle_frame (l : Lane) (maskStep : Bool) (s : State) :
    (settle l maskStep s).mdp = s.mdp ∧ (settle l maskStep s).qg = s.qg ∧ (settle l maskStep s).pst = s.pst ∧
    (settle l maskStep s).se.inCtx = s.se.inCtx ∧ (settle l maskStep s).se.peerSilent = s.se.peerSilent ∧
    (settle l maskStep s).se.flip = s.se.flip ∧ (settle l maskStep s).ohl = s.ohl ∧
    (settle l maskStep s).cal = s.cal ∧ (settle l maskStep s).mgp.cursor = s.mgp.cursor ∧
    (settle l maskStep s).mgp.enables = s.mgp.enables ∧
    (settle l maskStep s).mgp.laneParams = s.mgp.laneParams ∧ (settle l maskStep s).mgp.params = s.mgp.params ∧
    (settle l maskStep s).mgp.response = s.mgp.response ∧ (settle l maskStep s).prc = s.prc ∧
    (settle l maskStep s).modemOut = s.modemOut ∧ (settle l maskStep s).shares = s.shares ∧
    (settle l maskStep s).pending = s.pending := by
  simp only [settle]; (repeat' split) <;> simp

@[simp] theorem pinOut_frame (l : Lane) (p : Profile) (s : State) :
    (pinOut l p s).mdp = s.mdp ∧ (pinOut l p s).qg = s.qg ∧ (pinOut l p s).pst = s.pst ∧
    (pinOut l p s).se.inCtx = s.se.inCtx ∧ (pinOut l p s).se.peerSilent = s.se.peerSilent ∧
    (pinOut l p s).se.flip = s.se.flip ∧ (pinOut l p s).ohl = s.ohl ∧ (pinOut l p s).cal = s.cal ∧
    (pinOut l p s).mgp.cursor = s.mgp.cursor ∧ (pinOut l p s).mgp.enables = s.mgp.enables ∧
    (pinOut l p s).mgp.laneParams = s.mgp.laneParams ∧ (pinOut l p s).mgp.params = s.mgp.params ∧
    (pinOut l p s).mgp.response = s.mgp.response ∧ (pinOut l p s).prc = s.prc ∧
    (pinOut l p s).modemOut = s.modemOut ∧ (pinOut l p s).shares = s.shares ∧ (pinOut l p s).pending = s.pending := by
  simp [pinOut]

@[simp] theorem unpinOut_frame (l : Lane) (s : State) :
    (unpinOut l s).mdp = s.mdp ∧ (unpinOut l s).qg = s.qg ∧ (unpinOut l s).pst = s.pst ∧
    (unpinOut l s).se.inCtx = s.se.inCtx ∧ (unpinOut l s).se.peerSilent = s.se.peerSilent ∧
    (unpinOut l s).se.flip = s.se.flip ∧ (unpinOut l s).ohl = s.ohl ∧ (unpinOut l s).cal = s.cal ∧
    (unpinOut l s).mgp.cursor = s.mgp.cursor ∧ (unpinOut l s).mgp.enables = s.mgp.enables ∧
    (unpinOut l s).mgp.laneParams = s.mgp.laneParams ∧ (unpinOut l s).mgp.params = s.mgp.params ∧
    (unpinOut l s).mgp.response = s.mgp.response ∧ (unpinOut l s).prc = s.prc ∧
    (unpinOut l s).modemOut = s.modemOut ∧ (unpinOut l s).shares = s.shares ∧ (unpinOut l s).pending = s.pending := by
  simp only [unpinOut]; (repeat' split) <;> simp

@[simp] theorem pinIn_frame (l : Lane) (p : Profile) (s : State) :
    (pinIn l p s).mdp = s.mdp ∧ (pinIn l p s).qg = s.qg ∧ (pinIn l p s).pst = s.pst ∧
    (pinIn l p s).se.outCtx = s.se.outCtx ∧ (pinIn l p s).se.peerSilent = s.se.peerSilent ∧
    (pinIn l p s).se.flip = s.se.flip ∧ (pinIn l p s).ohl.deframer = s.ohl.deframer ∧
    (pinIn l p s).ohl.lock = s.ohl.lock ∧ (pinIn l p s).ohl.silence = s.ohl.silence ∧
    (pinIn l p s).ohl.beacon = s.ohl.beacon ∧ (pinIn l p s).ohl.far = s.ohl.far ∧ (pinIn l p s).sws = s.sws ∧
    (pinIn l p s).cal = s.cal ∧ (pinIn l p s).trp = s.trp ∧ (pinIn l p s).mgp.cursor = s.mgp.cursor ∧
    (pinIn l p s).mgp.enables = s.mgp.enables ∧ (pinIn l p s).mgp.laneParams = s.mgp.laneParams ∧
    (pinIn l p s).mgp.params = s.mgp.params ∧ (pinIn l p s).mgp.response = s.mgp.response ∧
    (pinIn l p s).prc.ring = s.prc.ring ∧ (pinIn l p s).prc.building = s.prc.building ∧
    (pinIn l p s).prc.second = s.prc.second ∧ (pinIn l p s).prc.histogram = s.prc.histogram ∧
    (pinIn l p s).modemOut = s.modemOut ∧ (pinIn l p s).shares = s.shares ∧ (pinIn l p s).pending = s.pending := by
  simp only [pinIn]; (repeat' split) <;> simp

@[simp] theorem maintainOutPin_frame (l : Lane) (s : State) :
    (maintainOutPin l s).mdp = s.mdp ∧ (maintainOutPin l s).qg = s.qg ∧ (maintainOutPin l s).pst = s.pst ∧
    (maintainOutPin l s).se.inCtx = s.se.inCtx ∧ (maintainOutPin l s).se.peerSilent = s.se.peerSilent ∧
    (maintainOutPin l s).se.flip = s.se.flip ∧ (maintainOutPin l s).ohl = s.ohl ∧
    (maintainOutPin l s).sws = s.sws ∧ (maintainOutPin l s).cal = s.cal ∧ (maintainOutPin l s).trp = s.trp ∧
    (maintainOutPin l s).mgp = s.mgp ∧ (maintainOutPin l s).prc = s.prc ∧
    (maintainOutPin l s).modemOut = s.modemOut ∧ (maintainOutPin l s).shares = s.shares ∧
    (maintainOutPin l s).pending = s.pending := by
  simp only [maintainOutPin]; (repeat' split) <;> simp

@[simp] theorem maintainInPin_frame (l : Lane) (s : State) :
    (maintainInPin l s).mdp = s.mdp ∧ (maintainInPin l s).qg = s.qg ∧ (maintainInPin l s).pst = s.pst ∧
    (maintainInPin l s).se.outCtx = s.se.outCtx ∧ (maintainInPin l s).se.peerSilent = s.se.peerSilent ∧
    (maintainInPin l s).se.flip = s.se.flip ∧ (maintainInPin l s).ohl = s.ohl ∧
    (maintainInPin l s).sws = s.sws ∧ (maintainInPin l s).cal = s.cal ∧ (maintainInPin l s).trp = s.trp ∧
    (maintainInPin l s).mgp = s.mgp ∧ (maintainInPin l s).prc = s.prc ∧
    (maintainInPin l s).modemOut = s.modemOut ∧ (maintainInPin l s).shares = s.shares ∧
    (maintainInPin l s).pending = s.pending := by
  simp only [maintainInPin]; (repeat' split) <;> simp

@[simp] theorem repinIn_frame (l : Lane) (s : State) :
    (repinIn l s).mdp = s.mdp ∧ (repinIn l s).qg = s.qg ∧ (repinIn l s).pst = s.pst ∧
    (repinIn l s).se.outCtx = s.se.outCtx ∧ (repinIn l s).se.peerSilent = s.se.peerSilent ∧
    (repinIn l s).se.flip = s.se.flip ∧ (repinIn l s).ohl.deframer = s.ohl.deframer ∧
    (repinIn l s).ohl.lock = s.ohl.lock ∧ (repinIn l s).ohl.silence = s.ohl.silence ∧
    (repinIn l s).ohl.beacon = s.ohl.beacon ∧ (repinIn l s).ohl.far = s.ohl.far ∧ (repinIn l s).sws = s.sws ∧
    (repinIn l s).cal = s.cal ∧ (repinIn l s).trp = s.trp ∧ (repinIn l s).mgp.cursor = s.mgp.cursor ∧
    (repinIn l s).mgp.enables = s.mgp.enables ∧ (repinIn l s).mgp.laneParams = s.mgp.laneParams ∧
    (repinIn l s).mgp.params = s.mgp.params ∧ (repinIn l s).mgp.response = s.mgp.response ∧
    (repinIn l s).prc.ring = s.prc.ring ∧ (repinIn l s).prc.building = s.prc.building ∧
    (repinIn l s).prc.second = s.prc.second ∧ (repinIn l s).prc.histogram = s.prc.histogram ∧
    (repinIn l s).modemOut = s.modemOut ∧ (repinIn l s).shares = s.shares ∧ (repinIn l s).pending = s.pending := by
  simp only [repinIn]; (repeat' split) <;> simp

@[simp] theorem maskStepOut_frame (l : Lane) (removed : ProfileSet) (s : State) :
    (maskStepOut l removed s).mdp = s.mdp ∧ (maskStepOut l removed s).qg = s.qg ∧
    (maskStepOut l removed s).pst = s.pst ∧ (maskStepOut l removed s).se.inCtx = s.se.inCtx ∧
    (maskStepOut l removed s).se.peerSilent = s.se.peerSilent ∧ (maskStepOut l removed s).se.flip = s.se.flip ∧
    (maskStepOut l removed s).ohl = s.ohl ∧ (maskStepOut l removed s).cal = s.cal ∧
    (maskStepOut l removed s).mgp.cursor = s.mgp.cursor ∧
    (maskStepOut l removed s).mgp.enables = s.mgp.enables ∧
    (maskStepOut l removed s).mgp.laneParams = s.mgp.laneParams ∧
    (maskStepOut l removed s).mgp.params = s.mgp.params ∧
    (maskStepOut l removed s).mgp.response = s.mgp.response ∧ (maskStepOut l removed s).prc = s.prc ∧
    (maskStepOut l removed s).modemOut = s.modemOut ∧ (maskStepOut l removed s).shares = s.shares ∧
    (maskStepOut l removed s).pending = s.pending := by
  simp only [maskStepOut]; (repeat' split) <;> simp

@[simp] theorem maskDecision_frame (l : Lane) (s : State) :
    (maskDecision l s).mdp = s.mdp ∧ (maskDecision l s).qg = s.qg ∧ (maskDecision l s).pst = s.pst ∧
    (maskDecision l s).se.outCtx = s.se.outCtx ∧ (maskDecision l s).se.peerSilent = s.se.peerSilent ∧
    (maskDecision l s).se.flip = s.se.flip ∧ (maskDecision l s).ohl.deframer = s.ohl.deframer ∧
    (maskDecision l s).ohl.lock = s.ohl.lock ∧ (maskDecision l s).ohl.silence = s.ohl.silence ∧
    (maskDecision l s).ohl.beacon = s.ohl.beacon ∧ (maskDecision l s).ohl.far = s.ohl.far ∧
    (maskDecision l s).sws = s.sws ∧ (maskDecision l s).cal = s.cal ∧ (maskDecision l s).trp = s.trp ∧
    (maskDecision l s).mgp.cursor = s.mgp.cursor ∧ (maskDecision l s).mgp.enables = s.mgp.enables ∧
    (maskDecision l s).mgp.laneParams = s.mgp.laneParams ∧ (maskDecision l s).mgp.params = s.mgp.params ∧
    (maskDecision l s).mgp.response = s.mgp.response ∧ (maskDecision l s).prc.ring = s.prc.ring ∧
    (maskDecision l s).prc.building = s.prc.building ∧ (maskDecision l s).prc.second = s.prc.second ∧
    (maskDecision l s).prc.histogram = s.prc.histogram ∧ (maskDecision l s).modemOut = s.modemOut ∧
    (maskDecision l s).shares = s.shares ∧ (maskDecision l s).pending = s.pending := by
  simp only [maskDecision]; (repeat' split) <;> simp

@[simp] theorem maskStepIn_frame (l : Lane) (removed : ProfileSet) (s : State) :
    (maskStepIn l removed s).mdp = s.mdp ∧ (maskStepIn l removed s).qg = s.qg ∧
    (maskStepIn l removed s).pst = s.pst ∧ (maskStepIn l removed s).se.outCtx = s.se.outCtx ∧
    (maskStepIn l removed s).se.peerSilent = s.se.peerSilent ∧ (maskStepIn l removed s).se.flip = s.se.flip ∧
    (maskStepIn l removed s).ohl.deframer = s.ohl.deframer ∧ (maskStepIn l removed s).ohl.lock = s.ohl.lock ∧
    (maskStepIn l removed s).ohl.silence = s.ohl.silence ∧ (maskStepIn l removed s).ohl.beacon = s.ohl.beacon ∧
    (maskStepIn l removed s).ohl.far = s.ohl.far ∧ (maskStepIn l removed s).sws = s.sws ∧
    (maskStepIn l removed s).cal = s.cal ∧ (maskStepIn l removed s).trp = s.trp ∧
    (maskStepIn l removed s).mgp.cursor = s.mgp.cursor ∧ (maskStepIn l removed s).mgp.enables = s.mgp.enables ∧
    (maskStepIn l removed s).mgp.laneParams = s.mgp.laneParams ∧
    (maskStepIn l removed s).mgp.params = s.mgp.params ∧
    (maskStepIn l removed s).mgp.response = s.mgp.response ∧ (maskStepIn l removed s).prc.ring = s.prc.ring ∧
    (maskStepIn l removed s).prc.building = s.prc.building ∧
    (maskStepIn l removed s).prc.second = s.prc.second ∧
    (maskStepIn l removed s).prc.histogram = s.prc.histogram ∧ (maskStepIn l removed s).modemOut = s.modemOut ∧
    (maskStepIn l removed s).shares = s.shares ∧ (maskStepIn l removed s).pending = s.pending := by
  simp only [maskStepIn]; (repeat' split) <;> simp

@[simp] theorem maskStep_frame (d : Dir) (l : Lane) (removed : ProfileSet) (s : State) :
    (maskStep d l removed s).mdp = s.mdp ∧ (maskStep d l removed s).qg = s.qg ∧
    (maskStep d l removed s).pst = s.pst ∧ (maskStep d l removed s).se.peerSilent = s.se.peerSilent ∧
    (maskStep d l removed s).se.flip = s.se.flip ∧ (maskStep d l removed s).ohl.deframer = s.ohl.deframer ∧
    (maskStep d l removed s).ohl.lock = s.ohl.lock ∧ (maskStep d l removed s).ohl.silence = s.ohl.silence ∧
    (maskStep d l removed s).ohl.beacon = s.ohl.beacon ∧ (maskStep d l removed s).ohl.far = s.ohl.far ∧
    (maskStep d l removed s).cal = s.cal ∧ (maskStep d l removed s).mgp.cursor = s.mgp.cursor ∧
    (maskStep d l removed s).mgp.enables = s.mgp.enables ∧
    (maskStep d l removed s).mgp.laneParams = s.mgp.laneParams ∧
    (maskStep d l removed s).mgp.params = s.mgp.params ∧
    (maskStep d l removed s).mgp.response = s.mgp.response ∧ (maskStep d l removed s).prc.ring = s.prc.ring ∧
    (maskStep d l removed s).prc.building = s.prc.building ∧
    (maskStep d l removed s).prc.second = s.prc.second ∧
    (maskStep d l removed s).prc.histogram = s.prc.histogram ∧ (maskStep d l removed s).modemOut = s.modemOut ∧
    (maskStep d l removed s).shares = s.shares ∧ (maskStep d l removed s).pending = s.pending := by
  simp only [maskStep]; (repeat' split) <;> simp

@[simp] theorem fallbackOut_frame (l : Lane) (s : State) :
    (fallbackOut l s).mdp = s.mdp ∧ (fallbackOut l s).qg = s.qg ∧ (fallbackOut l s).pst = s.pst ∧
    (fallbackOut l s).se.inCtx = s.se.inCtx ∧ (fallbackOut l s).se.peerSilent = s.se.peerSilent ∧
    (fallbackOut l s).se.flip = s.se.flip ∧ (fallbackOut l s).ohl = s.ohl ∧ (fallbackOut l s).cal = s.cal ∧
    (fallbackOut l s).mgp.cursor = s.mgp.cursor ∧ (fallbackOut l s).mgp.enables = s.mgp.enables ∧
    (fallbackOut l s).mgp.laneParams = s.mgp.laneParams ∧ (fallbackOut l s).mgp.params = s.mgp.params ∧
    (fallbackOut l s).mgp.response = s.mgp.response ∧ (fallbackOut l s).prc = s.prc ∧
    (fallbackOut l s).modemOut = s.modemOut ∧ (fallbackOut l s).shares = s.shares ∧
    (fallbackOut l s).pending = s.pending := by
  simp only [fallbackOut]; (repeat' split) <;> simp

@[simp] theorem silenceIn_frame (l : Lane) (s : State) :
    (silenceIn l s).mdp = s.mdp ∧ (silenceIn l s).qg = s.qg ∧ (silenceIn l s).pst = s.pst ∧
    (silenceIn l s).se.outCtx = s.se.outCtx ∧ (silenceIn l s).se.peerSilent = s.se.peerSilent ∧
    (silenceIn l s).se.flip = s.se.flip ∧ (silenceIn l s).ohl = s.ohl ∧ (silenceIn l s).sws = s.sws ∧
    (silenceIn l s).cal = s.cal ∧ (silenceIn l s).trp = s.trp ∧ (silenceIn l s).mgp = s.mgp ∧
    (silenceIn l s).prc = s.prc ∧ (silenceIn l s).modemOut = s.modemOut ∧ (silenceIn l s).shares = s.shares ∧
    (silenceIn l s).pending = s.pending := by
  simp [silenceIn]

@[simp] theorem silenceExpiry_frame (s : State) :
    (silenceExpiry s).mdp = s.mdp ∧ (silenceExpiry s).qg = s.qg ∧ (silenceExpiry s).pst = s.pst ∧
    (silenceExpiry s).se.flip = s.se.flip ∧ (silenceExpiry s).ohl = s.ohl ∧ (silenceExpiry s).cal = s.cal ∧
    (silenceExpiry s).mgp.cursor = s.mgp.cursor ∧ (silenceExpiry s).mgp.enables = s.mgp.enables ∧
    (silenceExpiry s).mgp.laneParams = s.mgp.laneParams ∧ (silenceExpiry s).mgp.params = s.mgp.params ∧
    (silenceExpiry s).mgp.response = s.mgp.response ∧ (silenceExpiry s).prc.counters = s.prc.counters ∧
    (silenceExpiry s).prc.ring = s.prc.ring ∧ (silenceExpiry s).prc.second = s.prc.second ∧
    (silenceExpiry s).prc.histogram = s.prc.histogram ∧ (silenceExpiry s).modemOut = s.modemOut ∧
    (silenceExpiry s).shares = s.shares ∧ (silenceExpiry s).pending = s.pending := by
  simp only [silenceExpiry]; (repeat' split) <;> simp

@[simp] theorem adaptOut_frame (l : Lane) (s : State) :
    (adaptOut l s).mdp = s.mdp ∧ (adaptOut l s).qg = s.qg ∧ (adaptOut l s).pst = s.pst ∧
    (adaptOut l s).se.inCtx = s.se.inCtx ∧ (adaptOut l s).se.peerSilent = s.se.peerSilent ∧
    (adaptOut l s).se.flip = s.se.flip ∧ (adaptOut l s).ohl = s.ohl ∧ (adaptOut l s).sws = s.sws ∧
    (adaptOut l s).cal = s.cal ∧ (adaptOut l s).trp = s.trp ∧ (adaptOut l s).mgp = s.mgp ∧
    (adaptOut l s).prc = s.prc ∧ (adaptOut l s).modemOut = s.modemOut ∧ (adaptOut l s).shares = s.shares ∧
    (adaptOut l s).pending = s.pending := by
  simp only [adaptOut]; (repeat' split) <;> simp

@[simp] theorem recoverOut_frame (l : Lane) (s : State) :
    (recoverOut l s).mdp = s.mdp ∧ (recoverOut l s).qg = s.qg ∧ (recoverOut l s).pst = s.pst ∧
    (recoverOut l s).se.inCtx = s.se.inCtx ∧ (recoverOut l s).se.peerSilent = s.se.peerSilent ∧
    (recoverOut l s).se.flip = s.se.flip ∧ (recoverOut l s).ohl = s.ohl ∧ (recoverOut l s).cal = s.cal ∧
    (recoverOut l s).mgp.cursor = s.mgp.cursor ∧ (recoverOut l s).mgp.enables = s.mgp.enables ∧
    (recoverOut l s).mgp.laneParams = s.mgp.laneParams ∧ (recoverOut l s).mgp.params = s.mgp.params ∧
    (recoverOut l s).mgp.response = s.mgp.response ∧ (recoverOut l s).prc = s.prc ∧
    (recoverOut l s).modemOut = s.modemOut ∧ (recoverOut l s).shares = s.shares ∧
    (recoverOut l s).pending = s.pending := by
  simp [recoverOut]

@[simp] theorem recoverIn_frame (l : Lane) (s : State) :
    (recoverIn l s).mdp = s.mdp ∧ (recoverIn l s).qg = s.qg ∧ (recoverIn l s).pst = s.pst ∧
    (recoverIn l s).se.outCtx = s.se.outCtx ∧ (recoverIn l s).se.peerSilent = s.se.peerSilent ∧
    (recoverIn l s).se.flip = s.se.flip ∧ (recoverIn l s).ohl.deframer = s.ohl.deframer ∧
    (recoverIn l s).ohl.lock = s.ohl.lock ∧ (recoverIn l s).ohl.silence = s.ohl.silence ∧
    (recoverIn l s).ohl.beacon = s.ohl.beacon ∧ (recoverIn l s).ohl.far = s.ohl.far ∧
    (recoverIn l s).sws = s.sws ∧ (recoverIn l s).cal = s.cal ∧ (recoverIn l s).trp = s.trp ∧
    (recoverIn l s).mgp.cursor = s.mgp.cursor ∧ (recoverIn l s).mgp.enables = s.mgp.enables ∧
    (recoverIn l s).mgp.laneParams = s.mgp.laneParams ∧ (recoverIn l s).mgp.params = s.mgp.params ∧
    (recoverIn l s).mgp.response = s.mgp.response ∧ (recoverIn l s).prc.ring = s.prc.ring ∧
    (recoverIn l s).prc.building = s.prc.building ∧ (recoverIn l s).prc.second = s.prc.second ∧
    (recoverIn l s).prc.histogram = s.prc.histogram ∧ (recoverIn l s).modemOut = s.modemOut ∧
    (recoverIn l s).shares = s.shares ∧ (recoverIn l s).pending = s.pending := by
  simp only [recoverIn]; (repeat' split) <;> simp

@[simp] theorem peerHeard_frame (s : State) :
    (peerHeard s).mdp = s.mdp ∧ (peerHeard s).qg = s.qg ∧ (peerHeard s).pst = s.pst ∧
    (peerHeard s).se.flip = s.se.flip ∧ (peerHeard s).ohl.deframer = s.ohl.deframer ∧
    (peerHeard s).ohl.lock = s.ohl.lock ∧ (peerHeard s).ohl.silence = s.ohl.silence ∧
    (peerHeard s).ohl.beacon = s.ohl.beacon ∧ (peerHeard s).ohl.far = s.ohl.far ∧ (peerHeard s).cal = s.cal ∧
    (peerHeard s).mgp.cursor = s.mgp.cursor ∧ (peerHeard s).mgp.enables = s.mgp.enables ∧
    (peerHeard s).mgp.laneParams = s.mgp.laneParams ∧ (peerHeard s).mgp.params = s.mgp.params ∧
    (peerHeard s).mgp.response = s.mgp.response ∧ (peerHeard s).prc.ring = s.prc.ring ∧
    (peerHeard s).prc.building = s.prc.building ∧ (peerHeard s).prc.second = s.prc.second ∧
    (peerHeard s).prc.histogram = s.prc.histogram ∧ (peerHeard s).modemOut = s.modemOut ∧
    (peerHeard s).shares = s.shares ∧ (peerHeard s).pending = s.pending := by
  simp only [peerHeard]; (repeat' split) <;> simp

@[simp] theorem dropInEntry_frame (l : Lane) (s : State) :
    (dropInEntry l s).mdp = s.mdp ∧ (dropInEntry l s).qg = s.qg ∧ (dropInEntry l s).pst = s.pst ∧
    (dropInEntry l s).se = s.se ∧ (dropInEntry l s).ohl = s.ohl ∧ (dropInEntry l s).cal = s.cal ∧
    (dropInEntry l s).mgp.cursor = s.mgp.cursor ∧ (dropInEntry l s).mgp.enables = s.mgp.enables ∧
    (dropInEntry l s).mgp.laneParams = s.mgp.laneParams ∧ (dropInEntry l s).mgp.params = s.mgp.params ∧
    (dropInEntry l s).mgp.response = s.mgp.response ∧ (dropInEntry l s).prc = s.prc ∧
    (dropInEntry l s).modemOut = s.modemOut ∧ (dropInEntry l s).shares = s.shares ∧
    (dropInEntry l s).pending = s.pending := by
  simp only [dropInEntry]; (repeat' split) <;> simp

@[simp] theorem countDivergence_frame (l : Lane) (s : State) :
    (countDivergence l s).mdp = s.mdp ∧ (countDivergence l s).qg = s.qg ∧ (countDivergence l s).pst = s.pst ∧
    (countDivergence l s).se = s.se ∧ (countDivergence l s).ohl = s.ohl ∧ (countDivergence l s).sws = s.sws ∧
    (countDivergence l s).cal = s.cal ∧ (countDivergence l s).trp = s.trp ∧
    (countDivergence l s).mgp.cursor = s.mgp.cursor ∧ (countDivergence l s).mgp.enables = s.mgp.enables ∧
    (countDivergence l s).mgp.laneParams = s.mgp.laneParams ∧ (countDivergence l s).mgp.params = s.mgp.params ∧
    (countDivergence l s).mgp.response = s.mgp.response ∧ (countDivergence l s).prc.ring = s.prc.ring ∧
    (countDivergence l s).prc.building = s.prc.building ∧ (countDivergence l s).prc.second = s.prc.second ∧
    (countDivergence l s).prc.histogram = s.prc.histogram ∧ (countDivergence l s).modemOut = s.modemOut ∧
    (countDivergence l s).shares = s.shares ∧ (countDivergence l s).pending = s.pending := by
  simp [countDivergence]

@[simp] theorem adoptTag_frame (l : Lane) (t : Profile) (s : State) :
    (adoptTag l t s).mdp = s.mdp ∧ (adoptTag l t s).qg = s.qg ∧ (adoptTag l t s).pst = s.pst ∧
    (adoptTag l t s).se.outCtx = s.se.outCtx ∧ (adoptTag l t s).se.peerSilent = s.se.peerSilent ∧
    (adoptTag l t s).se.flip = s.se.flip ∧ (adoptTag l t s).ohl.deframer = s.ohl.deframer ∧
    (adoptTag l t s).ohl.lock = s.ohl.lock ∧ (adoptTag l t s).ohl.silence = s.ohl.silence ∧
    (adoptTag l t s).ohl.beacon = s.ohl.beacon ∧ (adoptTag l t s).ohl.far = s.ohl.far ∧
    (adoptTag l t s).mgp.cursor = s.mgp.cursor ∧ (adoptTag l t s).mgp.enables = s.mgp.enables ∧
    (adoptTag l t s).mgp.laneParams = s.mgp.laneParams ∧ (adoptTag l t s).mgp.params = s.mgp.params ∧
    (adoptTag l t s).mgp.response = s.mgp.response ∧ (adoptTag l t s).prc.ring = s.prc.ring ∧
    (adoptTag l t s).prc.building = s.prc.building ∧ (adoptTag l t s).prc.second = s.prc.second ∧
    (adoptTag l t s).prc.histogram = s.prc.histogram ∧ (adoptTag l t s).modemOut = s.modemOut ∧
    (adoptTag l t s).shares = s.shares ∧ (adoptTag l t s).pending = s.pending := by
  simp only [adoptTag]; (repeat' split) <;> simp

@[simp] theorem runComplete_frame (l : Lane) (t : Profile) (s : State) :
    (runComplete l t s).mdp = s.mdp ∧ (runComplete l t s).qg = s.qg ∧ (runComplete l t s).pst = s.pst ∧
    (runComplete l t s).se.outCtx = s.se.outCtx ∧ (runComplete l t s).se.peerSilent = s.se.peerSilent ∧
    (runComplete l t s).se.flip = s.se.flip ∧ (runComplete l t s).ohl.deframer = s.ohl.deframer ∧
    (runComplete l t s).ohl.lock = s.ohl.lock ∧ (runComplete l t s).ohl.silence = s.ohl.silence ∧
    (runComplete l t s).ohl.beacon = s.ohl.beacon ∧ (runComplete l t s).ohl.far = s.ohl.far ∧
    (runComplete l t s).mgp.cursor = s.mgp.cursor ∧ (runComplete l t s).mgp.enables = s.mgp.enables ∧
    (runComplete l t s).mgp.laneParams = s.mgp.laneParams ∧ (runComplete l t s).mgp.params = s.mgp.params ∧
    (runComplete l t s).mgp.response = s.mgp.response ∧ (runComplete l t s).prc.ring = s.prc.ring ∧
    (runComplete l t s).prc.building = s.prc.building ∧ (runComplete l t s).prc.second = s.prc.second ∧
    (runComplete l t s).prc.histogram = s.prc.histogram ∧ (runComplete l t s).modemOut = s.modemOut ∧
    (runComplete l t s).shares = s.shares ∧ (runComplete l t s).pending = s.pending := by
  simp only [runComplete]; (repeat' split) <;> simp

@[simp] theorem tagInput_frame (l : Lane) (tag : Option Profile) (plan : Profile) (s : State) :
    (tagInput l tag plan s).mdp = s.mdp ∧ (tagInput l tag plan s).qg = s.qg ∧
    (tagInput l tag plan s).pst = s.pst ∧ (tagInput l tag plan s).se.outCtx = s.se.outCtx ∧
    (tagInput l tag plan s).se.peerSilent = s.se.peerSilent ∧ (tagInput l tag plan s).se.flip = s.se.flip ∧
    (tagInput l tag plan s).ohl.deframer = s.ohl.deframer ∧ (tagInput l tag plan s).ohl.lock = s.ohl.lock ∧
    (tagInput l tag plan s).ohl.silence = s.ohl.silence ∧ (tagInput l tag plan s).ohl.beacon = s.ohl.beacon ∧
    (tagInput l tag plan s).ohl.far = s.ohl.far ∧ (tagInput l tag plan s).mgp.cursor = s.mgp.cursor ∧
    (tagInput l tag plan s).mgp.enables = s.mgp.enables ∧
    (tagInput l tag plan s).mgp.laneParams = s.mgp.laneParams ∧
    (tagInput l tag plan s).mgp.params = s.mgp.params ∧ (tagInput l tag plan s).mgp.response = s.mgp.response ∧
    (tagInput l tag plan s).prc.ring = s.prc.ring ∧ (tagInput l tag plan s).prc.building = s.prc.building ∧
    (tagInput l tag plan s).prc.second = s.prc.second ∧
    (tagInput l tag plan s).prc.histogram = s.prc.histogram ∧ (tagInput l tag plan s).modemOut = s.modemOut ∧
    (tagInput l tag plan s).shares = s.shares ∧ (tagInput l tag plan s).pending = s.pending := by
  simp only [tagInput]; (repeat' split) <;> simp

@[simp] theorem responseExpiry_frame (l : Lane) (a : OutstandingAsk) (s : State) :
    (responseExpiry l a s).mdp = s.mdp ∧ (responseExpiry l a s).qg = s.qg ∧ (responseExpiry l a s).pst = s.pst ∧
    (responseExpiry l a s).se.outCtx = s.se.outCtx ∧ (responseExpiry l a s).se.peerSilent = s.se.peerSilent ∧
    (responseExpiry l a s).se.flip = s.se.flip ∧ (responseExpiry l a s).ohl.deframer = s.ohl.deframer ∧
    (responseExpiry l a s).ohl.lock = s.ohl.lock ∧ (responseExpiry l a s).ohl.silence = s.ohl.silence ∧
    (responseExpiry l a s).ohl.beacon = s.ohl.beacon ∧ (responseExpiry l a s).ohl.far = s.ohl.far ∧
    (responseExpiry l a s).sws = s.sws ∧ (responseExpiry l a s).cal = s.cal ∧
    (responseExpiry l a s).trp = s.trp ∧ (responseExpiry l a s).mgp.cursor = s.mgp.cursor ∧
    (responseExpiry l a s).mgp.enables = s.mgp.enables ∧
    (responseExpiry l a s).mgp.laneParams = s.mgp.laneParams ∧
    (responseExpiry l a s).mgp.params = s.mgp.params ∧ (responseExpiry l a s).mgp.response = s.mgp.response ∧
    (responseExpiry l a s).prc.ring = s.prc.ring ∧ (responseExpiry l a s).prc.building = s.prc.building ∧
    (responseExpiry l a s).prc.second = s.prc.second ∧ (responseExpiry l a s).prc.histogram = s.prc.histogram ∧
    (responseExpiry l a s).modemOut = s.modemOut ∧ (responseExpiry l a s).shares = s.shares ∧
    (responseExpiry l a s).pending = s.pending := by
  simp only [responseExpiry]; (repeat' split) <;> simp

@[simp] theorem busyExpiry_frame (l : Lane) (a : OutstandingAsk) (s : State) :
    (busyExpiry l a s).mdp = s.mdp ∧ (busyExpiry l a s).qg = s.qg ∧ (busyExpiry l a s).pst = s.pst ∧
    (busyExpiry l a s).se.outCtx = s.se.outCtx ∧ (busyExpiry l a s).se.peerSilent = s.se.peerSilent ∧
    (busyExpiry l a s).se.flip = s.se.flip ∧ (busyExpiry l a s).ohl.deframer = s.ohl.deframer ∧
    (busyExpiry l a s).ohl.lock = s.ohl.lock ∧ (busyExpiry l a s).ohl.silence = s.ohl.silence ∧
    (busyExpiry l a s).ohl.beacon = s.ohl.beacon ∧ (busyExpiry l a s).ohl.far = s.ohl.far ∧
    (busyExpiry l a s).sws = s.sws ∧ (busyExpiry l a s).cal = s.cal ∧ (busyExpiry l a s).trp = s.trp ∧
    (busyExpiry l a s).mgp.cursor = s.mgp.cursor ∧ (busyExpiry l a s).mgp.enables = s.mgp.enables ∧
    (busyExpiry l a s).mgp.laneParams = s.mgp.laneParams ∧ (busyExpiry l a s).mgp.params = s.mgp.params ∧
    (busyExpiry l a s).mgp.response = s.mgp.response ∧ (busyExpiry l a s).prc.ring = s.prc.ring ∧
    (busyExpiry l a s).prc.building = s.prc.building ∧ (busyExpiry l a s).prc.second = s.prc.second ∧
    (busyExpiry l a s).prc.histogram = s.prc.histogram ∧ (busyExpiry l a s).modemOut = s.modemOut ∧
    (busyExpiry l a s).shares = s.shares ∧ (busyExpiry l a s).pending = s.pending := by
  simp [busyExpiry]

@[simp] theorem tagExpiry_frame (l : Lane) (s : State) :
    (tagExpiry l s).mdp = s.mdp ∧ (tagExpiry l s).qg = s.qg ∧ (tagExpiry l s).pst = s.pst ∧
    (tagExpiry l s).se.outCtx = s.se.outCtx ∧ (tagExpiry l s).se.peerSilent = s.se.peerSilent ∧
    (tagExpiry l s).se.flip = s.se.flip ∧ (tagExpiry l s).ohl.deframer = s.ohl.deframer ∧
    (tagExpiry l s).ohl.lock = s.ohl.lock ∧ (tagExpiry l s).ohl.silence = s.ohl.silence ∧
    (tagExpiry l s).ohl.beacon = s.ohl.beacon ∧ (tagExpiry l s).ohl.far = s.ohl.far ∧
    (tagExpiry l s).sws = s.sws ∧ (tagExpiry l s).cal = s.cal ∧ (tagExpiry l s).trp = s.trp ∧
    (tagExpiry l s).mgp.cursor = s.mgp.cursor ∧ (tagExpiry l s).mgp.enables = s.mgp.enables ∧
    (tagExpiry l s).mgp.laneParams = s.mgp.laneParams ∧ (tagExpiry l s).mgp.params = s.mgp.params ∧
    (tagExpiry l s).mgp.response = s.mgp.response ∧ (tagExpiry l s).prc.ring = s.prc.ring ∧
    (tagExpiry l s).prc.building = s.prc.building ∧ (tagExpiry l s).prc.second = s.prc.second ∧
    (tagExpiry l s).prc.histogram = s.prc.histogram ∧ (tagExpiry l s).modemOut = s.modemOut ∧
    (tagExpiry l s).shares = s.shares ∧ (tagExpiry l s).pending = s.pending := by
  simp [tagExpiry]

@[simp] theorem tickResponse_frame (l : Lane) (s : State) :
    (tickResponse l s).mdp = s.mdp ∧ (tickResponse l s).qg = s.qg ∧ (tickResponse l s).pst = s.pst ∧
    (tickResponse l s).se.outCtx = s.se.outCtx ∧ (tickResponse l s).se.peerSilent = s.se.peerSilent ∧
    (tickResponse l s).se.flip = s.se.flip ∧ (tickResponse l s).ohl.deframer = s.ohl.deframer ∧
    (tickResponse l s).ohl.lock = s.ohl.lock ∧ (tickResponse l s).ohl.silence = s.ohl.silence ∧
    (tickResponse l s).ohl.beacon = s.ohl.beacon ∧ (tickResponse l s).ohl.far = s.ohl.far ∧
    (tickResponse l s).sws = s.sws ∧ (tickResponse l s).cal = s.cal ∧ (tickResponse l s).trp = s.trp ∧
    (tickResponse l s).mgp.cursor = s.mgp.cursor ∧ (tickResponse l s).mgp.enables = s.mgp.enables ∧
    (tickResponse l s).mgp.laneParams = s.mgp.laneParams ∧ (tickResponse l s).mgp.params = s.mgp.params ∧
    (tickResponse l s).mgp.response = s.mgp.response ∧ (tickResponse l s).prc.ring = s.prc.ring ∧
    (tickResponse l s).prc.building = s.prc.building ∧ (tickResponse l s).prc.second = s.prc.second ∧
    (tickResponse l s).prc.histogram = s.prc.histogram ∧ (tickResponse l s).modemOut = s.modemOut ∧
    (tickResponse l s).shares = s.shares ∧ (tickResponse l s).pending = s.pending := by
  simp only [tickResponse]; (repeat' split) <;> simp

@[simp] theorem tickTag_frame (l : Lane) (s : State) :
    (tickTag l s).mdp = s.mdp ∧ (tickTag l s).qg = s.qg ∧ (tickTag l s).pst = s.pst ∧
    (tickTag l s).se.outCtx = s.se.outCtx ∧ (tickTag l s).se.peerSilent = s.se.peerSilent ∧
    (tickTag l s).se.flip = s.se.flip ∧ (tickTag l s).ohl.deframer = s.ohl.deframer ∧
    (tickTag l s).ohl.lock = s.ohl.lock ∧ (tickTag l s).ohl.silence = s.ohl.silence ∧
    (tickTag l s).ohl.beacon = s.ohl.beacon ∧ (tickTag l s).ohl.far = s.ohl.far ∧ (tickTag l s).sws = s.sws ∧
    (tickTag l s).cal = s.cal ∧ (tickTag l s).trp = s.trp ∧ (tickTag l s).mgp.cursor = s.mgp.cursor ∧
    (tickTag l s).mgp.enables = s.mgp.enables ∧ (tickTag l s).mgp.laneParams = s.mgp.laneParams ∧
    (tickTag l s).mgp.params = s.mgp.params ∧ (tickTag l s).mgp.response = s.mgp.response ∧
    (tickTag l s).prc.ring = s.prc.ring ∧ (tickTag l s).prc.building = s.prc.building ∧
    (tickTag l s).prc.second = s.prc.second ∧ (tickTag l s).prc.histogram = s.prc.histogram ∧
    (tickTag l s).modemOut = s.modemOut ∧ (tickTag l s).shares = s.shares ∧ (tickTag l s).pending = s.pending := by
  simp only [tickTag]; (repeat' split) <;> simp

@[simp] theorem countSwitch_frame (l : Lane) (before : Profile) (after : Profile) (s : State) :
    (countSwitch l before after s).mdp = s.mdp ∧ (countSwitch l before after s).qg = s.qg ∧
    (countSwitch l before after s).pst = s.pst ∧ (countSwitch l before after s).se = s.se ∧
    (countSwitch l before after s).ohl = s.ohl ∧ (countSwitch l before after s).sws = s.sws ∧
    (countSwitch l before after s).cal = s.cal ∧ (countSwitch l before after s).trp = s.trp ∧
    (countSwitch l before after s).mgp.cursor = s.mgp.cursor ∧
    (countSwitch l before after s).mgp.enables = s.mgp.enables ∧
    (countSwitch l before after s).mgp.laneParams = s.mgp.laneParams ∧
    (countSwitch l before after s).mgp.params = s.mgp.params ∧
    (countSwitch l before after s).mgp.response = s.mgp.response ∧
    (countSwitch l before after s).prc.ring = s.prc.ring ∧
    (countSwitch l before after s).prc.second = s.prc.second ∧
    (countSwitch l before after s).prc.histogram = s.prc.histogram ∧
    (countSwitch l before after s).modemOut = s.modemOut ∧ (countSwitch l before after s).shares = s.shares ∧
    (countSwitch l before after s).pending = s.pending := by
  simp only [countSwitch]; (repeat' split) <;> simp

@[simp] theorem completeEntry_frame (d : Dir) (l : Lane) (target : Profile) (s : State) :
    (completeEntry d l target s).mdp = s.mdp ∧ (completeEntry d l target s).qg = s.qg ∧
    (completeEntry d l target s).pst = s.pst ∧ (completeEntry d l target s).se.peerSilent = s.se.peerSilent ∧
    (completeEntry d l target s).se.flip = s.se.flip ∧
    (completeEntry d l target s).ohl.deframer = s.ohl.deframer ∧
    (completeEntry d l target s).ohl.lock = s.ohl.lock ∧
    (completeEntry d l target s).ohl.silence = s.ohl.silence ∧
    (completeEntry d l target s).ohl.beacon = s.ohl.beacon ∧ (completeEntry d l target s).ohl.far = s.ohl.far ∧
    (completeEntry d l target s).cal = s.cal ∧ (completeEntry d l target s).mgp.cursor = s.mgp.cursor ∧
    (completeEntry d l target s).mgp.enables = s.mgp.enables ∧
    (completeEntry d l target s).mgp.laneParams = s.mgp.laneParams ∧
    (completeEntry d l target s).mgp.params = s.mgp.params ∧
    (completeEntry d l target s).mgp.response = s.mgp.response ∧
    (completeEntry d l target s).prc.ring = s.prc.ring ∧
    (completeEntry d l target s).prc.second = s.prc.second ∧
    (completeEntry d l target s).prc.histogram = s.prc.histogram ∧
    (completeEntry d l target s).modemOut = s.modemOut ∧ (completeEntry d l target s).shares = s.shares ∧
    (completeEntry d l target s).pending = s.pending := by
  simp only [completeEntry]; (repeat' split) <;> simp

@[simp] theorem completeEach_frame (es : List Entry) (s : State) :
    (completeEach es s).mdp = s.mdp ∧ (completeEach es s).qg = s.qg ∧ (completeEach es s).pst = s.pst ∧
    (completeEach es s).se.peerSilent = s.se.peerSilent ∧ (completeEach es s).se.flip = s.se.flip ∧
    (completeEach es s).ohl.deframer = s.ohl.deframer ∧ (completeEach es s).ohl.lock = s.ohl.lock ∧
    (completeEach es s).ohl.silence = s.ohl.silence ∧ (completeEach es s).ohl.beacon = s.ohl.beacon ∧
    (completeEach es s).ohl.far = s.ohl.far ∧ (completeEach es s).cal = s.cal ∧
    (completeEach es s).mgp.cursor = s.mgp.cursor ∧ (completeEach es s).mgp.enables = s.mgp.enables ∧
    (completeEach es s).mgp.laneParams = s.mgp.laneParams ∧ (completeEach es s).mgp.params = s.mgp.params ∧
    (completeEach es s).mgp.response = s.mgp.response ∧ (completeEach es s).prc.ring = s.prc.ring ∧
    (completeEach es s).prc.second = s.prc.second ∧ (completeEach es s).prc.histogram = s.prc.histogram ∧
    (completeEach es s).modemOut = s.modemOut ∧ (completeEach es s).shares = s.shares ∧
    (completeEach es s).pending = s.pending := by
  induction es generalizing s with
  | nil => constructorm* _ ∧ _ <;> rfl
  | cons e es ih =>
    simp only [completeEach, ih]
    split <;> simp

@[simp] theorem completeDirections_frame (s : State) :
    (completeDirections s).mdp = s.mdp ∧ (completeDirections s).qg = s.qg ∧ (completeDirections s).pst = s.pst ∧
    (completeDirections s).se.peerSilent = s.se.peerSilent ∧ (completeDirections s).se.flip = s.se.flip ∧
    (completeDirections s).ohl.deframer = s.ohl.deframer ∧ (completeDirections s).ohl.lock = s.ohl.lock ∧
    (completeDirections s).ohl.silence = s.ohl.silence ∧ (completeDirections s).ohl.beacon = s.ohl.beacon ∧
    (completeDirections s).ohl.far = s.ohl.far ∧ (completeDirections s).mgp.cursor = s.mgp.cursor ∧
    (completeDirections s).mgp.enables = s.mgp.enables ∧
    (completeDirections s).mgp.laneParams = s.mgp.laneParams ∧
    (completeDirections s).mgp.params = s.mgp.params ∧ (completeDirections s).mgp.response = s.mgp.response ∧
    (completeDirections s).prc.ring = s.prc.ring ∧ (completeDirections s).prc.second = s.prc.second ∧
    (completeDirections s).prc.histogram = s.prc.histogram ∧ (completeDirections s).modemOut = s.modemOut ∧
    (completeDirections s).shares = s.shares ∧ (completeDirections s).pending = s.pending := by
  simp only [completeDirections]
  refine ⟨(foldl_keeps (fun t => t.mdp) _ (by intro t d; simp) _ _).trans (by simp),
    (foldl_keeps (fun t => t.qg) _ (by intro t d; simp) _ _).trans (by simp),
    (foldl_keeps (fun t => t.pst) _ (by intro t d; simp) _ _).trans (by simp),
    (foldl_keeps (fun t => t.se.peerSilent) _ (by intro t d; simp) _ _).trans (by simp),
    (foldl_keeps (fun t => t.se.flip) _ (by intro t d; simp) _ _).trans (by simp),
    (foldl_keeps (fun t => t.ohl.deframer) _ (by intro t d; simp) _ _).trans (by simp),
    (foldl_keeps (fun t => t.ohl.lock) _ (by intro t d; simp) _ _).trans (by simp),
    (foldl_keeps (fun t => t.ohl.silence) _ (by intro t d; simp) _ _).trans (by simp),
    (foldl_keeps (fun t => t.ohl.beacon) _ (by intro t d; simp) _ _).trans (by simp),
    (foldl_keeps (fun t => t.ohl.far) _ (by intro t d; simp) _ _).trans (by simp),
    (foldl_keeps (fun t => t.mgp.cursor) _ (by intro t d; simp) _ _).trans (by simp),
    (foldl_keeps (fun t => t.mgp.enables) _ (by intro t d; simp) _ _).trans (by simp),
    (foldl_keeps (fun t => t.mgp.laneParams) _ (by intro t d; simp) _ _).trans (by simp),
    (foldl_keeps (fun t => t.mgp.params) _ (by intro t d; simp) _ _).trans (by simp),
    (foldl_keeps (fun t => t.mgp.response) _ (by intro t d; simp) _ _).trans (by simp),
    (foldl_keeps (fun t => t.prc.ring) _ (by intro t d; simp) _ _).trans (by simp),
    (foldl_keeps (fun t => t.prc.second) _ (by intro t d; simp) _ _).trans (by simp),
    (foldl_keeps (fun t => t.prc.histogram) _ (by intro t d; simp) _ _).trans (by simp),
    (foldl_keeps (fun t => t.modemOut) _ (by intro t d; simp) _ _).trans (by simp),
    (foldl_keeps (fun t => t.shares) _ (by intro t d; simp) _ _).trans (by simp),
    (foldl_keeps (fun t => t.pending) _ (by intro t d; simp) _ _).trans (by simp)⟩

@[simp] theorem tellFenced_frame (s : State) (e : Entry) :
    (tellFenced s e).mdp = s.mdp ∧ (tellFenced s e).qg = s.qg ∧ (tellFenced s e).pst = s.pst ∧
    (tellFenced s e).se.peerSilent = s.se.peerSilent ∧ (tellFenced s e).se.flip = s.se.flip ∧
    (tellFenced s e).ohl.deframer = s.ohl.deframer ∧ (tellFenced s e).ohl.lock = s.ohl.lock ∧
    (tellFenced s e).ohl.silence = s.ohl.silence ∧ (tellFenced s e).ohl.beacon = s.ohl.beacon ∧
    (tellFenced s e).ohl.far = s.ohl.far ∧ (tellFenced s e).sws = s.sws ∧ (tellFenced s e).cal = s.cal ∧
    (tellFenced s e).trp = s.trp ∧ (tellFenced s e).mgp.cursor = s.mgp.cursor ∧
    (tellFenced s e).mgp.enables = s.mgp.enables ∧ (tellFenced s e).mgp.laneParams = s.mgp.laneParams ∧
    (tellFenced s e).mgp.params = s.mgp.params ∧ (tellFenced s e).mgp.response = s.mgp.response ∧
    (tellFenced s e).prc.ring = s.prc.ring ∧ (tellFenced s e).prc.building = s.prc.building ∧
    (tellFenced s e).prc.second = s.prc.second ∧ (tellFenced s e).prc.histogram = s.prc.histogram ∧
    (tellFenced s e).modemOut = s.modemOut ∧ (tellFenced s e).shares = s.shares ∧
    (tellFenced s e).pending = s.pending := by
  simp only [tellFenced]; (repeat' split) <;> simp

@[simp] theorem fence_frame (f : Sfn) (s : State) :
    (fence f s).mdp = s.mdp ∧ (fence f s).qg = s.qg ∧ (fence f s).pst = s.pst ∧
    (fence f s).se.peerSilent = s.se.peerSilent ∧ (fence f s).se.flip = s.se.flip ∧
    (fence f s).ohl.deframer = s.ohl.deframer ∧ (fence f s).ohl.lock = s.ohl.lock ∧
    (fence f s).ohl.silence = s.ohl.silence ∧ (fence f s).ohl.beacon = s.ohl.beacon ∧
    (fence f s).ohl.far = s.ohl.far ∧ (fence f s).cal = s.cal ∧ (fence f s).mgp.cursor = s.mgp.cursor ∧
    (fence f s).mgp.enables = s.mgp.enables ∧ (fence f s).mgp.laneParams = s.mgp.laneParams ∧
    (fence f s).mgp.params = s.mgp.params ∧ (fence f s).mgp.response = s.mgp.response ∧
    (fence f s).prc.ring = s.prc.ring ∧ (fence f s).prc.building = s.prc.building ∧
    (fence f s).prc.second = s.prc.second ∧ (fence f s).prc.histogram = s.prc.histogram ∧
    (fence f s).modemOut = s.modemOut ∧ (fence f s).shares = s.shares ∧ (fence f s).pending = s.pending := by
  simp only [fence]
  refine ⟨(foldl_keeps (fun t => t.mdp) _ (by intro t e; simp) _ _).trans (by simp),
    (foldl_keeps (fun t => t.qg) _ (by intro t e; simp) _ _).trans (by simp),
    (foldl_keeps (fun t => t.pst) _ (by intro t e; simp) _ _).trans (by simp),
    (foldl_keeps (fun t => t.se.peerSilent) _ (by intro t e; simp) _ _).trans (by simp),
    (foldl_keeps (fun t => t.se.flip) _ (by intro t e; simp) _ _).trans (by simp),
    (foldl_keeps (fun t => t.ohl.deframer) _ (by intro t e; simp) _ _).trans (by simp),
    (foldl_keeps (fun t => t.ohl.lock) _ (by intro t e; simp) _ _).trans (by simp),
    (foldl_keeps (fun t => t.ohl.silence) _ (by intro t e; simp) _ _).trans (by simp),
    (foldl_keeps (fun t => t.ohl.beacon) _ (by intro t e; simp) _ _).trans (by simp),
    (foldl_keeps (fun t => t.ohl.far) _ (by intro t e; simp) _ _).trans (by simp),
    (foldl_keeps (fun t => t.cal) _ (by intro t e; simp) _ _).trans (by simp),
    (foldl_keeps (fun t => t.mgp.cursor) _ (by intro t e; simp) _ _).trans (by simp),
    (foldl_keeps (fun t => t.mgp.enables) _ (by intro t e; simp) _ _).trans (by simp),
    (foldl_keeps (fun t => t.mgp.laneParams) _ (by intro t e; simp) _ _).trans (by simp),
    (foldl_keeps (fun t => t.mgp.params) _ (by intro t e; simp) _ _).trans (by simp),
    (foldl_keeps (fun t => t.mgp.response) _ (by intro t e; simp) _ _).trans (by simp),
    (foldl_keeps (fun t => t.prc.ring) _ (by intro t e; simp) _ _).trans (by simp),
    (foldl_keeps (fun t => t.prc.building) _ (by intro t e; simp) _ _).trans (by simp),
    (foldl_keeps (fun t => t.prc.second) _ (by intro t e; simp) _ _).trans (by simp),
    (foldl_keeps (fun t => t.prc.histogram) _ (by intro t e; simp) _ _).trans (by simp),
    (foldl_keeps (fun t => t.modemOut) _ (by intro t e; simp) _ _).trans (by simp),
    (foldl_keeps (fun t => t.shares) _ (by intro t e; simp) _ _).trans (by simp),
    (foldl_keeps (fun t => t.pending) _ (by intro t e; simp) _ _).trans (by simp)⟩

@[simp] theorem insertBank_frame (epoch : Sfn) (s : State) :
    (insertBank epoch s).mdp = s.mdp ∧ (insertBank epoch s).qg = s.qg ∧ (insertBank epoch s).pst = s.pst ∧
    (insertBank epoch s).se.peerSilent = s.se.peerSilent ∧ (insertBank epoch s).se.flip = s.se.flip ∧
    (insertBank epoch s).ohl.deframer = s.ohl.deframer ∧ (insertBank epoch s).ohl.lock = s.ohl.lock ∧
    (insertBank epoch s).ohl.silence = s.ohl.silence ∧ (insertBank epoch s).ohl.beacon = s.ohl.beacon ∧
    (insertBank epoch s).ohl.far = s.ohl.far ∧ (insertBank epoch s).cal = s.cal ∧
    (insertBank epoch s).mgp.cursor = s.mgp.cursor ∧ (insertBank epoch s).mgp.enables = s.mgp.enables ∧
    (insertBank epoch s).mgp.laneParams = s.mgp.laneParams ∧ (insertBank epoch s).mgp.params = s.mgp.params ∧
    (insertBank epoch s).mgp.response = s.mgp.response ∧ (insertBank epoch s).prc.ring = s.prc.ring ∧
    (insertBank epoch s).prc.building = s.prc.building ∧ (insertBank epoch s).prc.second = s.prc.second ∧
    (insertBank epoch s).prc.histogram = s.prc.histogram ∧ (insertBank epoch s).modemOut = s.modemOut ∧
    (insertBank epoch s).shares = s.shares ∧ (insertBank epoch s).pending = s.pending := by
  simp only [insertBank]; (repeat' split) <;> simp

@[simp] theorem swapBanks_frame (target : BankId) (s : State) :
    (swapBanks target s).mdp = s.mdp ∧ (swapBanks target s).qg = s.qg ∧
    (swapBanks target s).pst.bankA = s.pst.bankA ∧ (swapBanks target s).pst.bankB = s.pst.bankB ∧
    (swapBanks target s).pst.digestA = s.pst.digestA ∧ (swapBanks target s).pst.digestB = s.pst.digestB ∧
    (swapBanks target s).pst.masks = s.pst.masks ∧ (swapBanks target s).se = s.se ∧
    (swapBanks target s).ohl = s.ohl ∧ (swapBanks target s).sws = s.sws ∧ (swapBanks target s).cal = s.cal ∧
    (swapBanks target s).trp = s.trp ∧ (swapBanks target s).mgp = s.mgp ∧ (swapBanks target s).prc = s.prc ∧
    (swapBanks target s).modemOut = s.modemOut ∧ (swapBanks target s).shares = s.shares ∧
    (swapBanks target s).pending = s.pending := by
  simp [swapBanks]

@[simp] theorem remapLane_frame (l : Lane) (s : State) :
    (remapLane l s).mdp = s.mdp ∧ (remapLane l s).qg = s.qg ∧ (remapLane l s).pst = s.pst ∧
    (remapLane l s).se.peerSilent = s.se.peerSilent ∧ (remapLane l s).se.flip = s.se.flip ∧
    (remapLane l s).ohl = s.ohl ∧ (remapLane l s).sws = s.sws ∧ (remapLane l s).cal = s.cal ∧
    (remapLane l s).trp = s.trp ∧ (remapLane l s).mgp = s.mgp ∧ (remapLane l s).prc = s.prc ∧
    (remapLane l s).modemOut = s.modemOut ∧ (remapLane l s).shares = s.shares ∧
    (remapLane l s).pending = s.pending := by
  simp [remapLane]

@[simp] theorem flipIn_frame (l : Lane) (s : State) :
    (flipIn l s).mdp = s.mdp ∧ (flipIn l s).qg = s.qg ∧ (flipIn l s).pst = s.pst ∧
    (flipIn l s).se.outCtx = s.se.outCtx ∧ (flipIn l s).se.peerSilent = s.se.peerSilent ∧
    (flipIn l s).se.flip = s.se.flip ∧ (flipIn l s).ohl = s.ohl ∧ (flipIn l s).sws = s.sws ∧
    (flipIn l s).cal = s.cal ∧ (flipIn l s).trp = s.trp ∧ (flipIn l s).mgp = s.mgp ∧ (flipIn l s).prc = s.prc ∧
    (flipIn l s).modemOut = s.modemOut ∧ (flipIn l s).shares = s.shares ∧ (flipIn l s).pending = s.pending := by
  simp only [flipIn]; (repeat' split) <;> simp

@[simp] theorem flipReDecide_frame (l : Lane) (s : State) :
    (flipReDecide l s).mdp = s.mdp ∧ (flipReDecide l s).qg = s.qg ∧ (flipReDecide l s).pst = s.pst ∧
    (flipReDecide l s).se.outCtx = s.se.outCtx ∧ (flipReDecide l s).se.peerSilent = s.se.peerSilent ∧
    (flipReDecide l s).se.flip = s.se.flip ∧ (flipReDecide l s).ohl.deframer = s.ohl.deframer ∧
    (flipReDecide l s).ohl.lock = s.ohl.lock ∧ (flipReDecide l s).ohl.silence = s.ohl.silence ∧
    (flipReDecide l s).ohl.beacon = s.ohl.beacon ∧ (flipReDecide l s).ohl.far = s.ohl.far ∧
    (flipReDecide l s).sws = s.sws ∧ (flipReDecide l s).cal = s.cal ∧ (flipReDecide l s).trp = s.trp ∧
    (flipReDecide l s).mgp.cursor = s.mgp.cursor ∧ (flipReDecide l s).mgp.enables = s.mgp.enables ∧
    (flipReDecide l s).mgp.laneParams = s.mgp.laneParams ∧ (flipReDecide l s).mgp.params = s.mgp.params ∧
    (flipReDecide l s).mgp.response = s.mgp.response ∧ (flipReDecide l s).prc.ring = s.prc.ring ∧
    (flipReDecide l s).prc.building = s.prc.building ∧ (flipReDecide l s).prc.second = s.prc.second ∧
    (flipReDecide l s).prc.histogram = s.prc.histogram ∧ (flipReDecide l s).modemOut = s.modemOut ∧
    (flipReDecide l s).shares = s.shares ∧ (flipReDecide l s).pending = s.pending := by
  simp only [flipReDecide]; (repeat' split) <;> simp

@[simp] theorem flipContexts_frame (s : State) :
    (flipContexts s).mdp = s.mdp ∧ (flipContexts s).qg = s.qg ∧ (flipContexts s).pst = s.pst ∧
    (flipContexts s).se.peerSilent = s.se.peerSilent ∧ (flipContexts s).se.flip = s.se.flip ∧
    (flipContexts s).ohl.deframer = s.ohl.deframer ∧ (flipContexts s).ohl.lock = s.ohl.lock ∧
    (flipContexts s).ohl.silence = s.ohl.silence ∧ (flipContexts s).ohl.beacon = s.ohl.beacon ∧
    (flipContexts s).ohl.far = s.ohl.far ∧ (flipContexts s).cal = s.cal ∧
    (flipContexts s).mgp.cursor = s.mgp.cursor ∧ (flipContexts s).mgp.enables = s.mgp.enables ∧
    (flipContexts s).mgp.laneParams = s.mgp.laneParams ∧ (flipContexts s).mgp.params = s.mgp.params ∧
    (flipContexts s).mgp.response = s.mgp.response ∧ (flipContexts s).prc.ring = s.prc.ring ∧
    (flipContexts s).prc.building = s.prc.building ∧ (flipContexts s).prc.second = s.prc.second ∧
    (flipContexts s).prc.histogram = s.prc.histogram ∧ (flipContexts s).modemOut = s.modemOut ∧
    (flipContexts s).shares = s.shares ∧ (flipContexts s).pending = s.pending := by
  simp [flipContexts]

@[simp] theorem flipDone_frame (s : State) :
    (flipDone s).mdp = s.mdp ∧ (flipDone s).qg = s.qg ∧ (flipDone s).pst = s.pst ∧
    (flipDone s).se.inCtx = s.se.inCtx ∧ (flipDone s).se.outCtx = s.se.outCtx ∧
    (flipDone s).se.peerSilent = s.se.peerSilent ∧ (flipDone s).ohl = s.ohl ∧ (flipDone s).sws = s.sws ∧
    (flipDone s).cal = s.cal ∧ (flipDone s).trp = s.trp ∧ (flipDone s).mgp.cursor = s.mgp.cursor ∧
    (flipDone s).mgp.enables = s.mgp.enables ∧ (flipDone s).mgp.laneParams = s.mgp.laneParams ∧
    (flipDone s).mgp.params = s.mgp.params ∧ (flipDone s).mgp.response = s.mgp.response ∧
    (flipDone s).prc.counters = s.prc.counters ∧ (flipDone s).prc.ring = s.prc.ring ∧
    (flipDone s).prc.second = s.prc.second ∧ (flipDone s).prc.histogram = s.prc.histogram ∧
    (flipDone s).modemOut = s.modemOut ∧ (flipDone s).shares = s.shares ∧ (flipDone s).pending = s.pending := by
  simp [flipDone]

@[simp] theorem flipCompletion_frame (target : BankId) (s : State) :
    (flipCompletion target s).mdp = s.mdp ∧ (flipCompletion target s).qg = s.qg ∧
    (flipCompletion target s).pst.bankA = s.pst.bankA ∧ (flipCompletion target s).pst.bankB = s.pst.bankB ∧
    (flipCompletion target s).pst.digestA = s.pst.digestA ∧
    (flipCompletion target s).pst.digestB = s.pst.digestB ∧ (flipCompletion target s).pst.masks = s.pst.masks ∧
    (flipCompletion target s).se.peerSilent = s.se.peerSilent ∧
    (flipCompletion target s).ohl.deframer = s.ohl.deframer ∧ (flipCompletion target s).ohl.lock = s.ohl.lock ∧
    (flipCompletion target s).ohl.silence = s.ohl.silence ∧
    (flipCompletion target s).ohl.beacon = s.ohl.beacon ∧ (flipCompletion target s).ohl.far = s.ohl.far ∧
    (flipCompletion target s).mgp.cursor = s.mgp.cursor ∧
    (flipCompletion target s).mgp.enables = s.mgp.enables ∧
    (flipCompletion target s).mgp.laneParams = s.mgp.laneParams ∧
    (flipCompletion target s).mgp.params = s.mgp.params ∧
    (flipCompletion target s).mgp.response = s.mgp.response ∧ (flipCompletion target s).prc.ring = s.prc.ring ∧
    (flipCompletion target s).prc.second = s.prc.second ∧
    (flipCompletion target s).prc.histogram = s.prc.histogram ∧
    (flipCompletion target s).modemOut = s.modemOut ∧ (flipCompletion target s).shares = s.shares ∧
    (flipCompletion target s).pending = s.pending := by
  simp [flipCompletion]

@[simp] theorem completeBank_frame (s : State) :
    (completeBank s).mdp = s.mdp ∧ (completeBank s).qg = s.qg ∧ (completeBank s).pst.bankA = s.pst.bankA ∧
    (completeBank s).pst.bankB = s.pst.bankB ∧ (completeBank s).pst.digestA = s.pst.digestA ∧
    (completeBank s).pst.digestB = s.pst.digestB ∧ (completeBank s).pst.masks = s.pst.masks ∧
    (completeBank s).se.peerSilent = s.se.peerSilent ∧ (completeBank s).ohl.deframer = s.ohl.deframer ∧
    (completeBank s).ohl.lock = s.ohl.lock ∧ (completeBank s).ohl.silence = s.ohl.silence ∧
    (completeBank s).ohl.beacon = s.ohl.beacon ∧ (completeBank s).ohl.far = s.ohl.far ∧
    (completeBank s).mgp.cursor = s.mgp.cursor ∧ (completeBank s).mgp.enables = s.mgp.enables ∧
    (completeBank s).mgp.laneParams = s.mgp.laneParams ∧ (completeBank s).mgp.params = s.mgp.params ∧
    (completeBank s).mgp.response = s.mgp.response ∧ (completeBank s).prc.ring = s.prc.ring ∧
    (completeBank s).prc.second = s.prc.second ∧ (completeBank s).prc.histogram = s.prc.histogram ∧
    (completeBank s).modemOut = s.modemOut ∧ (completeBank s).shares = s.shares ∧
    (completeBank s).pending = s.pending := by
  simp only [completeBank]; (repeat' split) <;> simp

@[simp] theorem handFlipAnswer_frame (m : FlipAnswer) (s : State) :
    (handFlipAnswer m s).mdp = s.mdp ∧ (handFlipAnswer m s).qg = s.qg ∧ (handFlipAnswer m s).pst = s.pst ∧
    (handFlipAnswer m s).se = s.se ∧ (handFlipAnswer m s).ohl.deframer = s.ohl.deframer ∧
    (handFlipAnswer m s).ohl.lock = s.ohl.lock ∧ (handFlipAnswer m s).ohl.silence = s.ohl.silence ∧
    (handFlipAnswer m s).ohl.beacon = s.ohl.beacon ∧ (handFlipAnswer m s).ohl.far = s.ohl.far ∧
    (handFlipAnswer m s).sws = s.sws ∧ (handFlipAnswer m s).cal = s.cal ∧ (handFlipAnswer m s).trp = s.trp ∧
    (handFlipAnswer m s).mgp = s.mgp ∧ (handFlipAnswer m s).prc = s.prc ∧
    (handFlipAnswer m s).modemOut = s.modemOut ∧ (handFlipAnswer m s).shares = s.shares ∧
    (handFlipAnswer m s).pending = s.pending := by
  simp [handFlipAnswer]

@[simp] theorem handOffer_frame (o : OutstandingOffer) (s : State) :
    (handOffer o s).mdp = s.mdp ∧ (handOffer o s).qg = s.qg ∧ (handOffer o s).pst = s.pst ∧
    (handOffer o s).se = s.se ∧ (handOffer o s).ohl.deframer = s.ohl.deframer ∧
    (handOffer o s).ohl.lock = s.ohl.lock ∧ (handOffer o s).ohl.silence = s.ohl.silence ∧
    (handOffer o s).ohl.beacon = s.ohl.beacon ∧ (handOffer o s).ohl.far = s.ohl.far ∧
    (handOffer o s).sws = s.sws ∧ (handOffer o s).cal = s.cal ∧ (handOffer o s).trp = s.trp ∧
    (handOffer o s).mgp = s.mgp ∧ (handOffer o s).prc = s.prc ∧ (handOffer o s).modemOut = s.modemOut ∧
    (handOffer o s).shares = s.shares ∧ (handOffer o s).pending = s.pending := by
  simp [handOffer]

@[simp] theorem endOffer_frame (outcome : FlipOutcome) (x : StagedStatus) (s : State) :
    (endOffer outcome x s).mdp = s.mdp ∧ (endOffer outcome x s).qg = s.qg ∧
    (endOffer outcome x s).pst.bankA = s.pst.bankA ∧ (endOffer outcome x s).pst.bankB = s.pst.bankB ∧
    (endOffer outcome x s).pst.live = s.pst.live ∧ (endOffer outcome x s).pst.digestA = s.pst.digestA ∧
    (endOffer outcome x s).pst.digestB = s.pst.digestB ∧ (endOffer outcome x s).pst.masks = s.pst.masks ∧
    (endOffer outcome x s).se.inCtx = s.se.inCtx ∧ (endOffer outcome x s).se.outCtx = s.se.outCtx ∧
    (endOffer outcome x s).se.peerSilent = s.se.peerSilent ∧ (endOffer outcome x s).ohl = s.ohl ∧
    (endOffer outcome x s).sws = s.sws ∧ (endOffer outcome x s).cal = s.cal ∧
    (endOffer outcome x s).trp = s.trp ∧ (endOffer outcome x s).mgp = s.mgp ∧
    (endOffer outcome x s).prc = s.prc ∧ (endOffer outcome x s).modemOut = s.modemOut ∧
    (endOffer outcome x s).shares = s.shares ∧ (endOffer outcome x s).pending = s.pending := by
  simp [endOffer]

@[simp] theorem agreeOffer_frame (toggle : Bool) (digest : Digest) (epoch : Sfn) (e : Sfn) (s : State) :
    (agreeOffer toggle digest epoch e s).mdp = s.mdp ∧ (agreeOffer toggle digest epoch e s).qg = s.qg ∧
    (agreeOffer toggle digest epoch e s).pst.bankA = s.pst.bankA ∧
    (agreeOffer toggle digest epoch e s).pst.bankB = s.pst.bankB ∧
    (agreeOffer toggle digest epoch e s).pst.live = s.pst.live ∧
    (agreeOffer toggle digest epoch e s).pst.digestA = s.pst.digestA ∧
    (agreeOffer toggle digest epoch e s).pst.digestB = s.pst.digestB ∧
    (agreeOffer toggle digest epoch e s).pst.masks = s.pst.masks ∧
    (agreeOffer toggle digest epoch e s).se.peerSilent = s.se.peerSilent ∧
    (agreeOffer toggle digest epoch e s).ohl.deframer = s.ohl.deframer ∧
    (agreeOffer toggle digest epoch e s).ohl.lock = s.ohl.lock ∧
    (agreeOffer toggle digest epoch e s).ohl.silence = s.ohl.silence ∧
    (agreeOffer toggle digest epoch e s).ohl.beacon = s.ohl.beacon ∧
    (agreeOffer toggle digest epoch e s).ohl.far = s.ohl.far ∧
    (agreeOffer toggle digest epoch e s).cal = s.cal ∧
    (agreeOffer toggle digest epoch e s).mgp.cursor = s.mgp.cursor ∧
    (agreeOffer toggle digest epoch e s).mgp.enables = s.mgp.enables ∧
    (agreeOffer toggle digest epoch e s).mgp.laneParams = s.mgp.laneParams ∧
    (agreeOffer toggle digest epoch e s).mgp.params = s.mgp.params ∧
    (agreeOffer toggle digest epoch e s).mgp.response = s.mgp.response ∧
    (agreeOffer toggle digest epoch e s).prc.ring = s.prc.ring ∧
    (agreeOffer toggle digest epoch e s).prc.building = s.prc.building ∧
    (agreeOffer toggle digest epoch e s).prc.second = s.prc.second ∧
    (agreeOffer toggle digest epoch e s).prc.histogram = s.prc.histogram ∧
    (agreeOffer toggle digest epoch e s).modemOut = s.modemOut ∧
    (agreeOffer toggle digest epoch e s).shares = s.shares ∧
    (agreeOffer toggle digest epoch e s).pending = s.pending := by
  simp [agreeOffer]

@[simp] theorem checkOffer_frame (toggle : Bool) (digest : Digest) (epoch : Sfn) (s : State) :
    (checkOffer toggle digest epoch s).mdp = s.mdp ∧ (checkOffer toggle digest epoch s).qg = s.qg ∧
    (checkOffer toggle digest epoch s).pst.bankA = s.pst.bankA ∧
    (checkOffer toggle digest epoch s).pst.bankB = s.pst.bankB ∧
    (checkOffer toggle digest epoch s).pst.live = s.pst.live ∧
    (checkOffer toggle digest epoch s).pst.digestA = s.pst.digestA ∧
    (checkOffer toggle digest epoch s).pst.digestB = s.pst.digestB ∧
    (checkOffer toggle digest epoch s).pst.masks = s.pst.masks ∧
    (checkOffer toggle digest epoch s).se.peerSilent = s.se.peerSilent ∧
    (checkOffer toggle digest epoch s).ohl.deframer = s.ohl.deframer ∧
    (checkOffer toggle digest epoch s).ohl.lock = s.ohl.lock ∧
    (checkOffer toggle digest epoch s).ohl.silence = s.ohl.silence ∧
    (checkOffer toggle digest epoch s).ohl.beacon = s.ohl.beacon ∧
    (checkOffer toggle digest epoch s).ohl.far = s.ohl.far ∧ (checkOffer toggle digest epoch s).cal = s.cal ∧
    (checkOffer toggle digest epoch s).mgp.cursor = s.mgp.cursor ∧
    (checkOffer toggle digest epoch s).mgp.enables = s.mgp.enables ∧
    (checkOffer toggle digest epoch s).mgp.laneParams = s.mgp.laneParams ∧
    (checkOffer toggle digest epoch s).mgp.params = s.mgp.params ∧
    (checkOffer toggle digest epoch s).mgp.response = s.mgp.response ∧
    (checkOffer toggle digest epoch s).prc.ring = s.prc.ring ∧
    (checkOffer toggle digest epoch s).prc.building = s.prc.building ∧
    (checkOffer toggle digest epoch s).prc.second = s.prc.second ∧
    (checkOffer toggle digest epoch s).prc.histogram = s.prc.histogram ∧
    (checkOffer toggle digest epoch s).modemOut = s.modemOut ∧
    (checkOffer toggle digest epoch s).shares = s.shares ∧
    (checkOffer toggle digest epoch s).pending = s.pending := by
  simp only [checkOffer]; (repeat' split) <;> simp

@[simp] theorem takeOffer_frame (toggle : Bool) (digest : Digest) (epoch : Sfn) (station : Byte) (s : State) :
    (takeOffer toggle digest epoch station s).mdp = s.mdp ∧
    (takeOffer toggle digest epoch station s).qg = s.qg ∧
    (takeOffer toggle digest epoch station s).pst.bankA = s.pst.bankA ∧
    (takeOffer toggle digest epoch station s).pst.bankB = s.pst.bankB ∧
    (takeOffer toggle digest epoch station s).pst.live = s.pst.live ∧
    (takeOffer toggle digest epoch station s).pst.digestA = s.pst.digestA ∧
    (takeOffer toggle digest epoch station s).pst.digestB = s.pst.digestB ∧
    (takeOffer toggle digest epoch station s).pst.masks = s.pst.masks ∧
    (takeOffer toggle digest epoch station s).se.peerSilent = s.se.peerSilent ∧
    (takeOffer toggle digest epoch station s).ohl.deframer = s.ohl.deframer ∧
    (takeOffer toggle digest epoch station s).ohl.lock = s.ohl.lock ∧
    (takeOffer toggle digest epoch station s).ohl.silence = s.ohl.silence ∧
    (takeOffer toggle digest epoch station s).ohl.beacon = s.ohl.beacon ∧
    (takeOffer toggle digest epoch station s).ohl.far = s.ohl.far ∧
    (takeOffer toggle digest epoch station s).cal = s.cal ∧
    (takeOffer toggle digest epoch station s).mgp.cursor = s.mgp.cursor ∧
    (takeOffer toggle digest epoch station s).mgp.enables = s.mgp.enables ∧
    (takeOffer toggle digest epoch station s).mgp.laneParams = s.mgp.laneParams ∧
    (takeOffer toggle digest epoch station s).mgp.params = s.mgp.params ∧
    (takeOffer toggle digest epoch station s).mgp.response = s.mgp.response ∧
    (takeOffer toggle digest epoch station s).prc.ring = s.prc.ring ∧
    (takeOffer toggle digest epoch station s).prc.building = s.prc.building ∧
    (takeOffer toggle digest epoch station s).prc.second = s.prc.second ∧
    (takeOffer toggle digest epoch station s).prc.histogram = s.prc.histogram ∧
    (takeOffer toggle digest epoch station s).modemOut = s.modemOut ∧
    (takeOffer toggle digest epoch station s).shares = s.shares ∧
    (takeOffer toggle digest epoch station s).pending = s.pending := by
  simp only [takeOffer]; (repeat' split) <;> simp

@[simp] theorem takeAgree_frame (toggle : Bool) (digest : Digest) (epoch : Sfn) (s : State) :
    (takeAgree toggle digest epoch s).mdp = s.mdp ∧ (takeAgree toggle digest epoch s).qg = s.qg ∧
    (takeAgree toggle digest epoch s).pst.bankA = s.pst.bankA ∧
    (takeAgree toggle digest epoch s).pst.bankB = s.pst.bankB ∧
    (takeAgree toggle digest epoch s).pst.live = s.pst.live ∧
    (takeAgree toggle digest epoch s).pst.digestA = s.pst.digestA ∧
    (takeAgree toggle digest epoch s).pst.digestB = s.pst.digestB ∧
    (takeAgree toggle digest epoch s).pst.masks = s.pst.masks ∧
    (takeAgree toggle digest epoch s).se.peerSilent = s.se.peerSilent ∧
    (takeAgree toggle digest epoch s).ohl.deframer = s.ohl.deframer ∧
    (takeAgree toggle digest epoch s).ohl.lock = s.ohl.lock ∧
    (takeAgree toggle digest epoch s).ohl.silence = s.ohl.silence ∧
    (takeAgree toggle digest epoch s).ohl.beacon = s.ohl.beacon ∧
    (takeAgree toggle digest epoch s).ohl.far = s.ohl.far ∧ (takeAgree toggle digest epoch s).cal = s.cal ∧
    (takeAgree toggle digest epoch s).mgp.cursor = s.mgp.cursor ∧
    (takeAgree toggle digest epoch s).mgp.enables = s.mgp.enables ∧
    (takeAgree toggle digest epoch s).mgp.laneParams = s.mgp.laneParams ∧
    (takeAgree toggle digest epoch s).mgp.params = s.mgp.params ∧
    (takeAgree toggle digest epoch s).mgp.response = s.mgp.response ∧
    (takeAgree toggle digest epoch s).prc.ring = s.prc.ring ∧
    (takeAgree toggle digest epoch s).prc.building = s.prc.building ∧
    (takeAgree toggle digest epoch s).prc.second = s.prc.second ∧
    (takeAgree toggle digest epoch s).prc.histogram = s.prc.histogram ∧
    (takeAgree toggle digest epoch s).modemOut = s.modemOut ∧
    (takeAgree toggle digest epoch s).shares = s.shares ∧ (takeAgree toggle digest epoch s).pending = s.pending := by
  simp only [takeAgree]; (repeat' split) <;> simp

@[simp] theorem takeDecline_frame (toggle : Bool) (reason : DeclineReason) (s : State) :
    (takeDecline toggle reason s).mdp = s.mdp ∧ (takeDecline toggle reason s).qg = s.qg ∧
    (takeDecline toggle reason s).pst.bankA = s.pst.bankA ∧
    (takeDecline toggle reason s).pst.bankB = s.pst.bankB ∧
    (takeDecline toggle reason s).pst.live = s.pst.live ∧
    (takeDecline toggle reason s).pst.digestA = s.pst.digestA ∧
    (takeDecline toggle reason s).pst.digestB = s.pst.digestB ∧
    (takeDecline toggle reason s).pst.masks = s.pst.masks ∧
    (takeDecline toggle reason s).se.inCtx = s.se.inCtx ∧
    (takeDecline toggle reason s).se.outCtx = s.se.outCtx ∧
    (takeDecline toggle reason s).se.peerSilent = s.se.peerSilent ∧ (takeDecline toggle reason s).ohl = s.ohl ∧
    (takeDecline toggle reason s).sws = s.sws ∧ (takeDecline toggle reason s).cal = s.cal ∧
    (takeDecline toggle reason s).trp = s.trp ∧ (takeDecline toggle reason s).mgp.cursor = s.mgp.cursor ∧
    (takeDecline toggle reason s).mgp.enables = s.mgp.enables ∧
    (takeDecline toggle reason s).mgp.laneParams = s.mgp.laneParams ∧
    (takeDecline toggle reason s).mgp.params = s.mgp.params ∧
    (takeDecline toggle reason s).mgp.response = s.mgp.response ∧ (takeDecline toggle reason s).prc = s.prc ∧
    (takeDecline toggle reason s).modemOut = s.modemOut ∧ (takeDecline toggle reason s).shares = s.shares ∧
    (takeDecline toggle reason s).pending = s.pending := by
  simp only [takeDecline]; (repeat' split) <;> simp

@[simp] theorem countDigest_frame (digest : Digest) (s : State) :
    (countDigest digest s).mdp = s.mdp ∧ (countDigest digest s).qg = s.qg ∧ (countDigest digest s).pst = s.pst ∧
    (countDigest digest s).se.inCtx = s.se.inCtx ∧ (countDigest digest s).se.outCtx = s.se.outCtx ∧
    (countDigest digest s).se.peerSilent = s.se.peerSilent ∧ (countDigest digest s).ohl = s.ohl ∧
    (countDigest digest s).sws = s.sws ∧ (countDigest digest s).cal = s.cal ∧
    (countDigest digest s).trp = s.trp ∧ (countDigest digest s).mgp.cursor = s.mgp.cursor ∧
    (countDigest digest s).mgp.enables = s.mgp.enables ∧
    (countDigest digest s).mgp.laneParams = s.mgp.laneParams ∧
    (countDigest digest s).mgp.params = s.mgp.params ∧ (countDigest digest s).mgp.response = s.mgp.response ∧
    (countDigest digest s).prc = s.prc ∧ (countDigest digest s).modemOut = s.modemOut ∧
    (countDigest digest s).shares = s.shares ∧ (countDigest digest s).pending = s.pending := by
  simp only [countDigest]; (repeat' split) <;> simp

@[simp] theorem offerExpiry_frame (o : OutstandingOffer) (s : State) :
    (offerExpiry o s).mdp = s.mdp ∧ (offerExpiry o s).qg = s.qg ∧ (offerExpiry o s).pst.bankA = s.pst.bankA ∧
    (offerExpiry o s).pst.bankB = s.pst.bankB ∧ (offerExpiry o s).pst.live = s.pst.live ∧
    (offerExpiry o s).pst.digestA = s.pst.digestA ∧ (offerExpiry o s).pst.digestB = s.pst.digestB ∧
    (offerExpiry o s).pst.masks = s.pst.masks ∧ (offerExpiry o s).se.inCtx = s.se.inCtx ∧
    (offerExpiry o s).se.outCtx = s.se.outCtx ∧ (offerExpiry o s).se.peerSilent = s.se.peerSilent ∧
    (offerExpiry o s).ohl.deframer = s.ohl.deframer ∧ (offerExpiry o s).ohl.lock = s.ohl.lock ∧
    (offerExpiry o s).ohl.silence = s.ohl.silence ∧ (offerExpiry o s).ohl.beacon = s.ohl.beacon ∧
    (offerExpiry o s).ohl.far = s.ohl.far ∧ (offerExpiry o s).sws = s.sws ∧ (offerExpiry o s).cal = s.cal ∧
    (offerExpiry o s).trp = s.trp ∧ (offerExpiry o s).mgp.cursor = s.mgp.cursor ∧
    (offerExpiry o s).mgp.enables = s.mgp.enables ∧ (offerExpiry o s).mgp.laneParams = s.mgp.laneParams ∧
    (offerExpiry o s).mgp.params = s.mgp.params ∧ (offerExpiry o s).mgp.response = s.mgp.response ∧
    (offerExpiry o s).prc = s.prc ∧ (offerExpiry o s).modemOut = s.modemOut ∧
    (offerExpiry o s).shares = s.shares ∧ (offerExpiry o s).pending = s.pending := by
  simp only [offerExpiry]; (repeat' split) <;> simp

@[simp] theorem tickOffer_frame (s : State) :
    (tickOffer s).mdp = s.mdp ∧ (tickOffer s).qg = s.qg ∧ (tickOffer s).pst.bankA = s.pst.bankA ∧
    (tickOffer s).pst.bankB = s.pst.bankB ∧ (tickOffer s).pst.live = s.pst.live ∧
    (tickOffer s).pst.digestA = s.pst.digestA ∧ (tickOffer s).pst.digestB = s.pst.digestB ∧
    (tickOffer s).pst.masks = s.pst.masks ∧ (tickOffer s).se.inCtx = s.se.inCtx ∧
    (tickOffer s).se.outCtx = s.se.outCtx ∧ (tickOffer s).se.peerSilent = s.se.peerSilent ∧
    (tickOffer s).ohl.deframer = s.ohl.deframer ∧ (tickOffer s).ohl.lock = s.ohl.lock ∧
    (tickOffer s).ohl.silence = s.ohl.silence ∧ (tickOffer s).ohl.beacon = s.ohl.beacon ∧
    (tickOffer s).ohl.far = s.ohl.far ∧ (tickOffer s).sws = s.sws ∧ (tickOffer s).cal = s.cal ∧
    (tickOffer s).trp = s.trp ∧ (tickOffer s).mgp.cursor = s.mgp.cursor ∧
    (tickOffer s).mgp.enables = s.mgp.enables ∧ (tickOffer s).mgp.laneParams = s.mgp.laneParams ∧
    (tickOffer s).mgp.params = s.mgp.params ∧ (tickOffer s).mgp.response = s.mgp.response ∧
    (tickOffer s).prc = s.prc ∧ (tickOffer s).modemOut = s.modemOut ∧ (tickOffer s).shares = s.shares ∧
    (tickOffer s).pending = s.pending := by
  simp only [tickOffer]; (repeat' split) <;> simp

@[simp] theorem makeOffer_frame (s : State) :
    (makeOffer s).mdp = s.mdp ∧ (makeOffer s).qg = s.qg ∧ (makeOffer s).pst.bankA = s.pst.bankA ∧
    (makeOffer s).pst.bankB = s.pst.bankB ∧ (makeOffer s).pst.live = s.pst.live ∧
    (makeOffer s).pst.digestA = s.pst.digestA ∧ (makeOffer s).pst.digestB = s.pst.digestB ∧
    (makeOffer s).pst.masks = s.pst.masks ∧ (makeOffer s).se.inCtx = s.se.inCtx ∧
    (makeOffer s).se.outCtx = s.se.outCtx ∧ (makeOffer s).se.peerSilent = s.se.peerSilent ∧
    (makeOffer s).ohl.deframer = s.ohl.deframer ∧ (makeOffer s).ohl.lock = s.ohl.lock ∧
    (makeOffer s).ohl.silence = s.ohl.silence ∧ (makeOffer s).ohl.beacon = s.ohl.beacon ∧
    (makeOffer s).ohl.far = s.ohl.far ∧ (makeOffer s).sws = s.sws ∧ (makeOffer s).cal = s.cal ∧
    (makeOffer s).trp = s.trp ∧ (makeOffer s).mgp = s.mgp ∧ (makeOffer s).prc = s.prc ∧
    (makeOffer s).modemOut = s.modemOut ∧ (makeOffer s).shares = s.shares ∧ (makeOffer s).pending = s.pending := by
  simp [makeOffer]

@[simp] theorem flipLocalNow_frame (s : State) :
    (flipLocalNow s).mdp = s.mdp ∧ (flipLocalNow s).qg = s.qg ∧ (flipLocalNow s).pst.bankA = s.pst.bankA ∧
    (flipLocalNow s).pst.bankB = s.pst.bankB ∧ (flipLocalNow s).pst.live = s.pst.live ∧
    (flipLocalNow s).pst.digestA = s.pst.digestA ∧ (flipLocalNow s).pst.digestB = s.pst.digestB ∧
    (flipLocalNow s).pst.masks = s.pst.masks ∧ (flipLocalNow s).se.peerSilent = s.se.peerSilent ∧
    (flipLocalNow s).ohl.deframer = s.ohl.deframer ∧ (flipLocalNow s).ohl.lock = s.ohl.lock ∧
    (flipLocalNow s).ohl.silence = s.ohl.silence ∧ (flipLocalNow s).ohl.beacon = s.ohl.beacon ∧
    (flipLocalNow s).ohl.far = s.ohl.far ∧ (flipLocalNow s).cal = s.cal ∧
    (flipLocalNow s).mgp.cursor = s.mgp.cursor ∧ (flipLocalNow s).mgp.enables = s.mgp.enables ∧
    (flipLocalNow s).mgp.laneParams = s.mgp.laneParams ∧ (flipLocalNow s).mgp.params = s.mgp.params ∧
    (flipLocalNow s).mgp.response = s.mgp.response ∧ (flipLocalNow s).prc.ring = s.prc.ring ∧
    (flipLocalNow s).prc.building = s.prc.building ∧ (flipLocalNow s).prc.second = s.prc.second ∧
    (flipLocalNow s).prc.histogram = s.prc.histogram ∧ (flipLocalNow s).modemOut = s.modemOut ∧
    (flipLocalNow s).shares = s.shares ∧ (flipLocalNow s).pending = s.pending := by
  simp only [flipLocalNow]; (repeat' split) <;> simp

/-! ## What a decision can do -/

/-- Whatever a decision of one lane does, the other lane's In context stays as it is. -/
theorem sendAskWith_inCtx (l : Lane) (target : Profile) (urgency : Urgency) (retries : Nat) (s : State) :
    (sendAskWith l target urgency retries s).se.inCtx = s.se.inCtx.set l
      { s.inCtx l with
        state := .asking, toggle := !(s.inCtx l).toggle, upHold := 0
        ask := some ⟨target, urgency, !(s.inCtx l).toggle, retries, s.params.responseTime, false⟩ } := by
  simp [sendAskWith, handAsk]

/-- Where an ASK goes: its lane's slot, over whatever waited there (R97, R131). -/
theorem sendAskWith_ask (l : Lane) (target : Profile) (urgency : Urgency) (retries : Nat) (s : State) :
    (sendAskWith l target urgency retries s).ohl.tx =
      { s.ohl.tx with ask := s.ohl.tx.ask.set l (some ⟨target, urgency, !(s.inCtx l).toggle⟩) } := by
  simp [sendAskWith, handAsk]

/-- A settle never writes a profile: it only schedules (R84). -/
theorem settle_disabled (l : Lane) (maskStep : Bool) (s : State) (h : s.enabled l = false) :
    settle l maskStep s = s := by
  unfold settle; simp [h]

/-- What a settle can do: nothing, the removal of the uncommitted entry, or a switch to the wanted profile at the
epoch that the fence allows (R84, R85). -/
theorem settle_cases (l : Lane) (maskStep : Bool) (s : State) :
    settle l maskStep s = s ∨
    settle l maskStep s = setOutState l .steady (removeDirection .outbound l s) ∨
    ∃ w source lead e, settleWanted l s = some (w, source, lead) ∧
      fencedEpoch s (sfnPlus s.sfn lead) = some e ∧
      settle l maskStep s = insertDirection .outbound l w e source s := by
  unfold settle internalSwitch
  (repeat' split) <;> simp_all

/-- A pinned Out context keeps its mode at a silence expiry and is settled (R84, R90, log 11). -/
theorem fallbackOut_pinned (l : Lane) (s : State) (h : (s.outCtx l).mode = .pinned) :
    fallbackOut l s = settle l false s := by
  simp [fallbackOut, h]

@[simp] theorem swapBanks_live (x : BankId) (s : State) : (swapBanks x s).pst.live = x := rfl

@[simp] theorem swapBanks_status (x : BankId) (s : State) : (swapBanks x s).pst.status = .editing := rfl

@[simp] theorem endOffer_status (o : FlipOutcome) (x : StagedStatus) (s : State) :
    (endOffer o x s).pst.status = x := rfl

@[simp] theorem endOffer_flip (o : FlipOutcome) (x : StagedStatus) (s : State) :
    (endOffer o x s).se.flip = { s.se.flip with offer := none, lastOutcome := some o } := rfl

end Sys2Proof.Machine
end

