-- ==== Sys2Proof/Laws/Grader.lean ====
section
/-! SUPPORT. What the recorder and the grader write, and what they leave alone. -/

namespace Sys2Proof.Machine

@[simp] theorem updateSecond_building (l : Lane) (f : LaneSecond → LaneSecond) (s : State) :
    (updateSecond l f s).prc.building =
      { s.prc.building with lanes := s.prc.building.lanes.set l (f (s.prc.building.lanes.get l)) } := rfl

@[simp] theorem setHistogram_histogram (h : PerLane (PerDir (Vector Nat 16))) (s : State) :
    (setHistogram h s).prc.histogram = h := rfl

/-! ## What each operation leaves alone -/

@[simp] theorem updateSecond_frame (l : Lane) (f : LaneSecond → LaneSecond) (s : State) :
    (updateSecond l f s).mdp = s.mdp ∧ (updateSecond l f s).qg = s.qg ∧ (updateSecond l f s).pst = s.pst ∧
    (updateSecond l f s).se = s.se ∧ (updateSecond l f s).ohl = s.ohl ∧ (updateSecond l f s).sws = s.sws ∧
    (updateSecond l f s).cal = s.cal ∧ (updateSecond l f s).trp = s.trp ∧ (updateSecond l f s).mgp = s.mgp ∧
    (updateSecond l f s).prc.counters = s.prc.counters ∧ (updateSecond l f s).prc.ring = s.prc.ring ∧
    (updateSecond l f s).prc.second = s.prc.second ∧ (updateSecond l f s).prc.histogram = s.prc.histogram ∧
    (updateSecond l f s).modemOut = s.modemOut ∧ (updateSecond l f s).shares = s.shares ∧
    (updateSecond l f s).pending = s.pending := by
  simp [updateSecond]

@[simp] theorem samplePlan_frame (s : State) :
    (samplePlan s).mdp = s.mdp ∧ (samplePlan s).qg = s.qg ∧ (samplePlan s).pst = s.pst ∧
    (samplePlan s).se = s.se ∧ (samplePlan s).ohl = s.ohl ∧ (samplePlan s).sws = s.sws ∧
    (samplePlan s).cal = s.cal ∧ (samplePlan s).trp = s.trp ∧ (samplePlan s).mgp = s.mgp ∧
    (samplePlan s).prc.counters = s.prc.counters ∧ (samplePlan s).prc.ring = s.prc.ring ∧
    (samplePlan s).prc.second = s.prc.second ∧ (samplePlan s).prc.histogram = s.prc.histogram ∧
    (samplePlan s).modemOut = s.modemOut ∧ (samplePlan s).shares = s.shares ∧ (samplePlan s).pending = s.pending := by
  simp [samplePlan]

@[simp] theorem latch_frame (w : PlanWord) (s : State) :
    (latch w s).mdp = s.mdp ∧ (latch w s).qg = s.qg ∧ (latch w s).pst = s.pst ∧ (latch w s).se = s.se ∧
    (latch w s).ohl = s.ohl ∧ (latch w s).sws = s.sws ∧ (latch w s).cal = s.cal ∧ (latch w s).trp = s.trp ∧
    (latch w s).mgp.cursor = s.mgp.cursor ∧ (latch w s).mgp.enables = s.mgp.enables ∧
    (latch w s).mgp.laneParams = s.mgp.laneParams ∧ (latch w s).mgp.params = s.mgp.params ∧
    (latch w s).mgp.response = s.mgp.response ∧ (latch w s).prc.counters = s.prc.counters ∧
    (latch w s).prc.histogram = s.prc.histogram ∧ (latch w s).modemOut = s.modemOut ∧
    (latch w s).shares = s.shares ∧ (latch w s).pending = s.pending := by
  simp [latch]

@[simp] theorem tickSecond_frame (w : PlanWord) (s : State) :
    (tickSecond w s).mdp = s.mdp ∧ (tickSecond w s).qg = s.qg ∧ (tickSecond w s).pst = s.pst ∧
    (tickSecond w s).se = s.se ∧ (tickSecond w s).ohl = s.ohl ∧ (tickSecond w s).sws = s.sws ∧
    (tickSecond w s).cal = s.cal ∧ (tickSecond w s).trp = s.trp ∧ (tickSecond w s).mgp.cursor = s.mgp.cursor ∧
    (tickSecond w s).mgp.enables = s.mgp.enables ∧ (tickSecond w s).mgp.laneParams = s.mgp.laneParams ∧
    (tickSecond w s).mgp.params = s.mgp.params ∧ (tickSecond w s).mgp.response = s.mgp.response ∧
    (tickSecond w s).prc.counters = s.prc.counters ∧ (tickSecond w s).prc.histogram = s.prc.histogram ∧
    (tickSecond w s).modemOut = s.modemOut ∧ (tickSecond w s).shares = s.shares ∧
    (tickSecond w s).pending = s.pending := by
  simp only [tickSecond]; (repeat' split) <;> simp

@[simp] theorem setHistogram_frame (h : PerLane (PerDir (Vector Nat 16))) (s : State) :
    (setHistogram h s).mdp = s.mdp ∧ (setHistogram h s).qg = s.qg ∧ (setHistogram h s).pst = s.pst ∧
    (setHistogram h s).se = s.se ∧ (setHistogram h s).ohl = s.ohl ∧ (setHistogram h s).sws = s.sws ∧
    (setHistogram h s).cal = s.cal ∧ (setHistogram h s).trp = s.trp ∧ (setHistogram h s).mgp = s.mgp ∧
    (setHistogram h s).prc.counters = s.prc.counters ∧ (setHistogram h s).prc.ring = s.prc.ring ∧
    (setHistogram h s).prc.building = s.prc.building ∧ (setHistogram h s).prc.second = s.prc.second ∧
    (setHistogram h s).modemOut = s.modemOut ∧ (setHistogram h s).shares = s.shares ∧
    (setHistogram h s).pending = s.pending := by
  constructorm* _ ∧ _ <;> rfl

@[simp] theorem countPlan_frame (s : State) :
    (countPlan s).mdp = s.mdp ∧ (countPlan s).qg = s.qg ∧ (countPlan s).pst = s.pst ∧ (countPlan s).se = s.se ∧
    (countPlan s).ohl = s.ohl ∧ (countPlan s).sws = s.sws ∧ (countPlan s).cal = s.cal ∧
    (countPlan s).trp = s.trp ∧ (countPlan s).mgp = s.mgp ∧ (countPlan s).prc.counters = s.prc.counters ∧
    (countPlan s).prc.ring = s.prc.ring ∧ (countPlan s).prc.building = s.prc.building ∧
    (countPlan s).prc.second = s.prc.second ∧ (countPlan s).modemOut = s.modemOut ∧
    (countPlan s).shares = s.shares ∧ (countPlan s).pending = s.pending := by
  simp only [countPlan]; (repeat' split) <;> simp

@[simp] theorem setBranch_frame (l : Lane) (b : Branch) (x : BranchGrader) (s : State) :
    (setBranch l b x s).mdp = s.mdp ∧ (setBranch l b x s).pst = s.pst ∧ (setBranch l b x s).se = s.se ∧
    (setBranch l b x s).ohl = s.ohl ∧ (setBranch l b x s).sws = s.sws ∧ (setBranch l b x s).cal = s.cal ∧
    (setBranch l b x s).trp = s.trp ∧ (setBranch l b x s).mgp = s.mgp ∧ (setBranch l b x s).prc = s.prc ∧
    (setBranch l b x s).modemOut = s.modemOut ∧ (setBranch l b x s).shares = s.shares ∧
    (setBranch l b x s).pending = s.pending := by
  simp [setBranch]

@[simp] theorem produceGrade_frame (l : Lane) (g : Nat) (s : State) :
    (produceGrade l g s).mdp = s.mdp ∧ (produceGrade l g s).pst = s.pst ∧ (produceGrade l g s).se = s.se ∧
    (produceGrade l g s).ohl = s.ohl ∧ (produceGrade l g s).sws = s.sws ∧ (produceGrade l g s).cal = s.cal ∧
    (produceGrade l g s).trp = s.trp ∧ (produceGrade l g s).mgp = s.mgp ∧
    (produceGrade l g s).prc.counters = s.prc.counters ∧ (produceGrade l g s).prc.ring = s.prc.ring ∧
    (produceGrade l g s).prc.second = s.prc.second ∧ (produceGrade l g s).prc.histogram = s.prc.histogram ∧
    (produceGrade l g s).modemOut = s.modemOut ∧ (produceGrade l g s).shares = s.shares ∧
    (produceGrade l g s).pending = s.pending := by
  simp [produceGrade]

@[simp] theorem restartGrader_frame (l : Lane) (s : State) :
    (restartGrader l s).mdp = s.mdp ∧ (restartGrader l s).pst = s.pst ∧ (restartGrader l s).se = s.se ∧
    (restartGrader l s).ohl = s.ohl ∧ (restartGrader l s).sws = s.sws ∧ (restartGrader l s).cal = s.cal ∧
    (restartGrader l s).trp = s.trp ∧ (restartGrader l s).mgp = s.mgp ∧
    (restartGrader l s).prc.counters = s.prc.counters ∧ (restartGrader l s).prc.ring = s.prc.ring ∧
    (restartGrader l s).prc.second = s.prc.second ∧ (restartGrader l s).prc.histogram = s.prc.histogram ∧
    (restartGrader l s).modemOut = s.modemOut ∧ (restartGrader l s).shares = s.shares ∧
    (restartGrader l s).pending = s.pending := by
  simp [restartGrader]

@[simp] theorem switchBranch_frame (l : Lane) (o : Branch) (s : State) :
    (switchBranch l o s).mdp = s.mdp ∧ (switchBranch l o s).pst = s.pst ∧ (switchBranch l o s).se = s.se ∧
    (switchBranch l o s).ohl = s.ohl ∧ (switchBranch l o s).sws = s.sws ∧ (switchBranch l o s).cal = s.cal ∧
    (switchBranch l o s).trp = s.trp ∧ (switchBranch l o s).mgp = s.mgp ∧ (switchBranch l o s).prc = s.prc ∧
    (switchBranch l o s).modemOut = s.modemOut ∧ (switchBranch l o s).shares = s.shares ∧
    (switchBranch l o s).pending = s.pending := by
  simp [switchBranch]

@[simp] theorem closeBranchCheck_frame (l : Lane) (b : Branch) (metric : Nat) (s : State) :
    (closeBranchCheck l b metric s).mdp = s.mdp ∧ (closeBranchCheck l b metric s).pst = s.pst ∧
    (closeBranchCheck l b metric s).se = s.se ∧ (closeBranchCheck l b metric s).ohl = s.ohl ∧
    (closeBranchCheck l b metric s).sws = s.sws ∧ (closeBranchCheck l b metric s).cal = s.cal ∧
    (closeBranchCheck l b metric s).trp = s.trp ∧ (closeBranchCheck l b metric s).mgp = s.mgp ∧
    (closeBranchCheck l b metric s).prc = s.prc ∧ (closeBranchCheck l b metric s).modemOut = s.modemOut ∧
    (closeBranchCheck l b metric s).shares = s.shares ∧ (closeBranchCheck l b metric s).pending = s.pending := by
  simp only [closeBranchCheck]; (repeat' split) <;> simp

@[simp] theorem fixedSelection_frame (l : Lane) (selected : Branch) (s : State) :
    (fixedSelection l selected s).mdp = s.mdp ∧ (fixedSelection l selected s).pst = s.pst ∧
    (fixedSelection l selected s).se = s.se ∧ (fixedSelection l selected s).ohl = s.ohl ∧
    (fixedSelection l selected s).sws = s.sws ∧ (fixedSelection l selected s).cal = s.cal ∧
    (fixedSelection l selected s).trp = s.trp ∧ (fixedSelection l selected s).mgp = s.mgp ∧
    (fixedSelection l selected s).prc = s.prc ∧ (fixedSelection l selected s).modemOut = s.modemOut ∧
    (fixedSelection l selected s).shares = s.shares ∧ (fixedSelection l selected s).pending = s.pending := by
  simp only [fixedSelection]; (repeat' split) <;> simp

@[simp] theorem dropGrade_frame (l : Lane) (b : Branch) (g : Nat) (s : State) :
    (dropGrade l b g s).mdp = s.mdp ∧ (dropGrade l b g s).pst = s.pst ∧ (dropGrade l b g s).se = s.se ∧
    (dropGrade l b g s).ohl = s.ohl ∧ (dropGrade l b g s).sws = s.sws ∧ (dropGrade l b g s).cal = s.cal ∧
    (dropGrade l b g s).trp = s.trp ∧ (dropGrade l b g s).mgp.cursor = s.mgp.cursor ∧
    (dropGrade l b g s).mgp.enables = s.mgp.enables ∧ (dropGrade l b g s).mgp.laneParams = s.mgp.laneParams ∧
    (dropGrade l b g s).mgp.params = s.mgp.params ∧ (dropGrade l b g s).mgp.response = s.mgp.response ∧
    (dropGrade l b g s).prc.ring = s.prc.ring ∧ (dropGrade l b g s).prc.second = s.prc.second ∧
    (dropGrade l b g s).prc.histogram = s.prc.histogram ∧ (dropGrade l b g s).modemOut = s.modemOut ∧
    (dropGrade l b g s).shares = s.shares ∧ (dropGrade l b g s).pending = s.pending := by
  simp [dropGrade]

@[simp] theorem lockLoss_frame (l : Lane) (b : Branch) (s : State) :
    (lockLoss l b s).mdp = s.mdp ∧ (lockLoss l b s).pst = s.pst ∧ (lockLoss l b s).se.outCtx = s.se.outCtx ∧
    (lockLoss l b s).se.peerSilent = s.se.peerSilent ∧ (lockLoss l b s).se.flip = s.se.flip ∧
    (lockLoss l b s).ohl.deframer = s.ohl.deframer ∧ (lockLoss l b s).ohl.lock = s.ohl.lock ∧
    (lockLoss l b s).ohl.silence = s.ohl.silence ∧ (lockLoss l b s).ohl.beacon = s.ohl.beacon ∧
    (lockLoss l b s).ohl.far = s.ohl.far ∧ (lockLoss l b s).sws = s.sws ∧ (lockLoss l b s).cal = s.cal ∧
    (lockLoss l b s).trp = s.trp ∧ (lockLoss l b s).mgp.cursor = s.mgp.cursor ∧
    (lockLoss l b s).mgp.enables = s.mgp.enables ∧ (lockLoss l b s).mgp.laneParams = s.mgp.laneParams ∧
    (lockLoss l b s).mgp.params = s.mgp.params ∧ (lockLoss l b s).mgp.response = s.mgp.response ∧
    (lockLoss l b s).prc.ring = s.prc.ring ∧ (lockLoss l b s).prc.second = s.prc.second ∧
    (lockLoss l b s).prc.histogram = s.prc.histogram ∧ (lockLoss l b s).modemOut = s.modemOut ∧
    (lockLoss l b s).shares = s.shares ∧ (lockLoss l b s).pending = s.pending := by
  simp only [lockLoss]; (repeat' split) <;> simp

@[simp] theorem fastDrop_frame (l : Lane) (b : Branch) (e : Nat) (s : State) :
    (fastDrop l b e s).mdp = s.mdp ∧ (fastDrop l b e s).pst = s.pst ∧
    (fastDrop l b e s).se.outCtx = s.se.outCtx ∧ (fastDrop l b e s).se.peerSilent = s.se.peerSilent ∧
    (fastDrop l b e s).se.flip = s.se.flip ∧ (fastDrop l b e s).ohl.deframer = s.ohl.deframer ∧
    (fastDrop l b e s).ohl.lock = s.ohl.lock ∧ (fastDrop l b e s).ohl.silence = s.ohl.silence ∧
    (fastDrop l b e s).ohl.beacon = s.ohl.beacon ∧ (fastDrop l b e s).ohl.far = s.ohl.far ∧
    (fastDrop l b e s).sws = s.sws ∧ (fastDrop l b e s).cal = s.cal ∧ (fastDrop l b e s).trp = s.trp ∧
    (fastDrop l b e s).mgp.cursor = s.mgp.cursor ∧ (fastDrop l b e s).mgp.enables = s.mgp.enables ∧
    (fastDrop l b e s).mgp.laneParams = s.mgp.laneParams ∧ (fastDrop l b e s).mgp.params = s.mgp.params ∧
    (fastDrop l b e s).mgp.response = s.mgp.response ∧ (fastDrop l b e s).prc.ring = s.prc.ring ∧
    (fastDrop l b e s).prc.second = s.prc.second ∧ (fastDrop l b e s).prc.histogram = s.prc.histogram ∧
    (fastDrop l b e s).modemOut = s.modemOut ∧ (fastDrop l b e s).shares = s.shares ∧
    (fastDrop l b e s).pending = s.pending := by
  simp [fastDrop]

@[simp] theorem closeWindow_frame (l : Lane) (b : Branch) (belongs : Bool) (s : State) :
    (closeWindow l b belongs s).mdp = s.mdp ∧ (closeWindow l b belongs s).pst = s.pst ∧
    (closeWindow l b belongs s).se.outCtx = s.se.outCtx ∧
    (closeWindow l b belongs s).se.peerSilent = s.se.peerSilent ∧
    (closeWindow l b belongs s).se.flip = s.se.flip ∧
    (closeWindow l b belongs s).ohl.deframer = s.ohl.deframer ∧
    (closeWindow l b belongs s).ohl.lock = s.ohl.lock ∧
    (closeWindow l b belongs s).ohl.silence = s.ohl.silence ∧
    (closeWindow l b belongs s).ohl.beacon = s.ohl.beacon ∧ (closeWindow l b belongs s).ohl.far = s.ohl.far ∧
    (closeWindow l b belongs s).sws = s.sws ∧ (closeWindow l b belongs s).cal = s.cal ∧
    (closeWindow l b belongs s).trp = s.trp ∧ (closeWindow l b belongs s).mgp.cursor = s.mgp.cursor ∧
    (closeWindow l b belongs s).mgp.enables = s.mgp.enables ∧
    (closeWindow l b belongs s).mgp.laneParams = s.mgp.laneParams ∧
    (closeWindow l b belongs s).mgp.params = s.mgp.params ∧
    (closeWindow l b belongs s).mgp.response = s.mgp.response ∧
    (closeWindow l b belongs s).prc.ring = s.prc.ring ∧ (closeWindow l b belongs s).prc.second = s.prc.second ∧
    (closeWindow l b belongs s).prc.histogram = s.prc.histogram ∧
    (closeWindow l b belongs s).modemOut = s.modemOut ∧ (closeWindow l b belongs s).shares = s.shares ∧
    (closeWindow l b belongs s).pending = s.pending := by
  simp only [closeWindow]; (repeat' split) <;> simp

@[simp] theorem addReport_frame (r : QualityReport) (belongs : Bool) (s : State) :
    (addReport r belongs s).mdp = s.mdp ∧ (addReport r belongs s).pst = s.pst ∧
    (addReport r belongs s).se.outCtx = s.se.outCtx ∧ (addReport r belongs s).se.peerSilent = s.se.peerSilent ∧
    (addReport r belongs s).se.flip = s.se.flip ∧ (addReport r belongs s).ohl.deframer = s.ohl.deframer ∧
    (addReport r belongs s).ohl.lock = s.ohl.lock ∧ (addReport r belongs s).ohl.silence = s.ohl.silence ∧
    (addReport r belongs s).ohl.beacon = s.ohl.beacon ∧ (addReport r belongs s).ohl.far = s.ohl.far ∧
    (addReport r belongs s).sws = s.sws ∧ (addReport r belongs s).cal = s.cal ∧
    (addReport r belongs s).trp = s.trp ∧ (addReport r belongs s).mgp.cursor = s.mgp.cursor ∧
    (addReport r belongs s).mgp.enables = s.mgp.enables ∧
    (addReport r belongs s).mgp.laneParams = s.mgp.laneParams ∧
    (addReport r belongs s).mgp.params = s.mgp.params ∧ (addReport r belongs s).mgp.response = s.mgp.response ∧
    (addReport r belongs s).prc.ring = s.prc.ring ∧ (addReport r belongs s).prc.second = s.prc.second ∧
    (addReport r belongs s).prc.histogram = s.prc.histogram ∧ (addReport r belongs s).modemOut = s.modemOut ∧
    (addReport r belongs s).shares = s.shares ∧ (addReport r belongs s).pending = s.pending := by
  simp only [addReport]; (repeat' split) <;> simp

@[simp] theorem contribute_frame (r : QualityReport) (s : State) :
    (contribute r s).mdp = s.mdp ∧ (contribute r s).qg = s.qg ∧ (contribute r s).pst = s.pst ∧
    (contribute r s).se = s.se ∧ (contribute r s).ohl = s.ohl ∧ (contribute r s).sws = s.sws ∧
    (contribute r s).cal = s.cal ∧ (contribute r s).trp = s.trp ∧ (contribute r s).mgp = s.mgp ∧
    (contribute r s).prc.counters = s.prc.counters ∧ (contribute r s).prc.ring = s.prc.ring ∧
    (contribute r s).prc.second = s.prc.second ∧ (contribute r s).prc.histogram = s.prc.histogram ∧
    (contribute r s).modemOut = s.modemOut ∧ (contribute r s).shares = s.shares ∧
    (contribute r s).pending = s.pending := by
  simp only [contribute]; (repeat' split) <;> simp

@[simp] theorem selectedReport_frame (r : QualityReport) (plan : Profile) (s : State) :
    (selectedReport r plan s).mdp = s.mdp ∧ (selectedReport r plan s).pst = s.pst ∧
    (selectedReport r plan s).se.outCtx = s.se.outCtx ∧
    (selectedReport r plan s).se.peerSilent = s.se.peerSilent ∧ (selectedReport r plan s).se.flip = s.se.flip ∧
    (selectedReport r plan s).ohl.deframer = s.ohl.deframer ∧ (selectedReport r plan s).ohl.lock = s.ohl.lock ∧
    (selectedReport r plan s).ohl.silence = s.ohl.silence ∧
    (selectedReport r plan s).ohl.beacon = s.ohl.beacon ∧ (selectedReport r plan s).ohl.far = s.ohl.far ∧
    (selectedReport r plan s).mgp.cursor = s.mgp.cursor ∧
    (selectedReport r plan s).mgp.enables = s.mgp.enables ∧
    (selectedReport r plan s).mgp.laneParams = s.mgp.laneParams ∧
    (selectedReport r plan s).mgp.params = s.mgp.params ∧
    (selectedReport r plan s).mgp.response = s.mgp.response ∧ (selectedReport r plan s).prc.ring = s.prc.ring ∧
    (selectedReport r plan s).prc.second = s.prc.second ∧
    (selectedReport r plan s).prc.histogram = s.prc.histogram ∧
    (selectedReport r plan s).modemOut = s.modemOut ∧ (selectedReport r plan s).shares = s.shares ∧
    (selectedReport r plan s).pending = s.pending := by
  simp only [selectedReport]; (repeat' split) <;> simp

@[simp] theorem noteLock_frame (r : QualityReport) (s : State) :
    (noteLock r s).mdp = s.mdp ∧ (noteLock r s).pst = s.pst ∧ (noteLock r s).se = s.se ∧
    (noteLock r s).ohl = s.ohl ∧ (noteLock r s).sws = s.sws ∧ (noteLock r s).cal = s.cal ∧
    (noteLock r s).trp = s.trp ∧ (noteLock r s).mgp = s.mgp ∧ (noteLock r s).prc = s.prc ∧
    (noteLock r s).modemOut = s.modemOut ∧ (noteLock r s).shares = s.shares ∧ (noteLock r s).pending = s.pending := by
  simp [noteLock]

@[simp] theorem processReport_frame (r : QualityReport) (selected : Branch) (plan : Profile) (s : State) :
    (processReport r selected plan s).mdp = s.mdp ∧ (processReport r selected plan s).pst = s.pst ∧
    (processReport r selected plan s).se.outCtx = s.se.outCtx ∧
    (processReport r selected plan s).se.peerSilent = s.se.peerSilent ∧
    (processReport r selected plan s).se.flip = s.se.flip ∧
    (processReport r selected plan s).ohl.deframer = s.ohl.deframer ∧
    (processReport r selected plan s).ohl.lock = s.ohl.lock ∧
    (processReport r selected plan s).ohl.silence = s.ohl.silence ∧
    (processReport r selected plan s).ohl.beacon = s.ohl.beacon ∧
    (processReport r selected plan s).ohl.far = s.ohl.far ∧
    (processReport r selected plan s).mgp.cursor = s.mgp.cursor ∧
    (processReport r selected plan s).mgp.enables = s.mgp.enables ∧
    (processReport r selected plan s).mgp.laneParams = s.mgp.laneParams ∧
    (processReport r selected plan s).mgp.params = s.mgp.params ∧
    (processReport r selected plan s).mgp.response = s.mgp.response ∧
    (processReport r selected plan s).prc.ring = s.prc.ring ∧
    (processReport r selected plan s).prc.second = s.prc.second ∧
    (processReport r selected plan s).prc.histogram = s.prc.histogram ∧
    (processReport r selected plan s).modemOut = s.modemOut ∧
    (processReport r selected plan s).shares = s.shares ∧ (processReport r selected plan s).pending = s.pending := by
  simp only [processReport]; (repeat' split) <;> simp

/-! ## Grades -/

/-- A grade read off the thresholds is one of 0..15 (R25). -/
theorem gradeOf_le (ts : Vector Nat 15) (x : Nat) : gradeOf ts x ≤ 15 := by
  unfold gradeOf
  exact List.countP_le_length.trans (by simp)

/-- The grade of a selected close is one of 0..15 when the grade before it is (R25). -/
theorem closeGrade_le (p : LaneParams) (g a : Nat) (h : g ≤ 15) : closeGrade p g a ≤ 15 := by
  simp only [closeGrade]
  split
  · exact gradeOf_le _ _
  · exact max_le h (gradeOf_le _ _)

/-- The adjusted metric is one of 0..1023 (R22). -/
theorem adjusted_le (p : LaneParams) (b : BranchGrader) : adjusted p b ≤ 1023 := by
  simp [adjusted, Config.metricMax]

/-- What a latch makes of the ring (R184). -/
theorem latch_ring (w : PlanWord) (s : State) :
    (latch w s).prc.ring = (s.prc.building :: s.prc.ring).take 64 := rfl

end Sys2Proof.Machine
end

