-- ==== Sys2Proof/Laws/Protocol.lean ====
section
/-! SUPPORT. What the two ends of the step protocol write, and what they leave alone. -/

namespace Sys2Proof.Machine

@[simp] theorem giveAnswer_frame (l : Lane) (a : Answer) (s : State) :
    (giveAnswer l a s).mdp = s.mdp ∧ (giveAnswer l a s).qg = s.qg ∧ (giveAnswer l a s).pst = s.pst ∧
    (giveAnswer l a s).se.inCtx = s.se.inCtx ∧ (giveAnswer l a s).se.peerSilent = s.se.peerSilent ∧
    (giveAnswer l a s).se.flip = s.se.flip ∧ (giveAnswer l a s).ohl.deframer = s.ohl.deframer ∧
    (giveAnswer l a s).ohl.lock = s.ohl.lock ∧ (giveAnswer l a s).ohl.silence = s.ohl.silence ∧
    (giveAnswer l a s).ohl.beacon = s.ohl.beacon ∧ (giveAnswer l a s).ohl.far = s.ohl.far ∧
    (giveAnswer l a s).sws = s.sws ∧ (giveAnswer l a s).cal = s.cal ∧ (giveAnswer l a s).trp = s.trp ∧
    (giveAnswer l a s).mgp = s.mgp ∧ (giveAnswer l a s).prc = s.prc ∧ (giveAnswer l a s).modemOut = s.modemOut ∧
    (giveAnswer l a s).shares = s.shares ∧ (giveAnswer l a s).pending = s.pending := by
  simp [giveAnswer]

@[simp] theorem grantAsk_frame (l : Lane) (toggle : Bool) (urgent : Bool) (target : Profile) (s : State) :
    (grantAsk l toggle urgent target s).mdp = s.mdp ∧ (grantAsk l toggle urgent target s).qg = s.qg ∧
    (grantAsk l toggle urgent target s).pst = s.pst ∧
    (grantAsk l toggle urgent target s).se.inCtx = s.se.inCtx ∧
    (grantAsk l toggle urgent target s).se.peerSilent = s.se.peerSilent ∧
    (grantAsk l toggle urgent target s).se.flip = s.se.flip ∧
    (grantAsk l toggle urgent target s).ohl.deframer = s.ohl.deframer ∧
    (grantAsk l toggle urgent target s).ohl.lock = s.ohl.lock ∧
    (grantAsk l toggle urgent target s).ohl.silence = s.ohl.silence ∧
    (grantAsk l toggle urgent target s).ohl.beacon = s.ohl.beacon ∧
    (grantAsk l toggle urgent target s).ohl.far = s.ohl.far ∧ (grantAsk l toggle urgent target s).cal = s.cal ∧
    (grantAsk l toggle urgent target s).mgp.cursor = s.mgp.cursor ∧
    (grantAsk l toggle urgent target s).mgp.enables = s.mgp.enables ∧
    (grantAsk l toggle urgent target s).mgp.laneParams = s.mgp.laneParams ∧
    (grantAsk l toggle urgent target s).mgp.params = s.mgp.params ∧
    (grantAsk l toggle urgent target s).mgp.response = s.mgp.response ∧
    (grantAsk l toggle urgent target s).prc = s.prc ∧
    (grantAsk l toggle urgent target s).modemOut = s.modemOut ∧
    (grantAsk l toggle urgent target s).shares = s.shares ∧
    (grantAsk l toggle urgent target s).pending = s.pending := by
  simp only [grantAsk]; (repeat' split) <;> simp

@[simp] theorem takeAsk_frame (l : Lane) (toggle : Bool) (urgent : Bool) (target : Profile) (digest : Digest) (s : State) :
    (takeAsk l toggle urgent target digest s).mdp = s.mdp ∧
    (takeAsk l toggle urgent target digest s).qg = s.qg ∧
    (takeAsk l toggle urgent target digest s).pst = s.pst ∧
    (takeAsk l toggle urgent target digest s).se.inCtx = s.se.inCtx ∧
    (takeAsk l toggle urgent target digest s).se.peerSilent = s.se.peerSilent ∧
    (takeAsk l toggle urgent target digest s).se.flip = s.se.flip ∧
    (takeAsk l toggle urgent target digest s).ohl.deframer = s.ohl.deframer ∧
    (takeAsk l toggle urgent target digest s).ohl.lock = s.ohl.lock ∧
    (takeAsk l toggle urgent target digest s).ohl.silence = s.ohl.silence ∧
    (takeAsk l toggle urgent target digest s).ohl.beacon = s.ohl.beacon ∧
    (takeAsk l toggle urgent target digest s).ohl.far = s.ohl.far ∧
    (takeAsk l toggle urgent target digest s).cal = s.cal ∧
    (takeAsk l toggle urgent target digest s).mgp.cursor = s.mgp.cursor ∧
    (takeAsk l toggle urgent target digest s).mgp.enables = s.mgp.enables ∧
    (takeAsk l toggle urgent target digest s).mgp.laneParams = s.mgp.laneParams ∧
    (takeAsk l toggle urgent target digest s).mgp.params = s.mgp.params ∧
    (takeAsk l toggle urgent target digest s).mgp.response = s.mgp.response ∧
    (takeAsk l toggle urgent target digest s).prc = s.prc ∧
    (takeAsk l toggle urgent target digest s).modemOut = s.modemOut ∧
    (takeAsk l toggle urgent target digest s).shares = s.shares ∧
    (takeAsk l toggle urgent target digest s).pending = s.pending := by
  simp only [takeAsk]; (repeat' split) <;> simp

@[simp] theorem awaitSwitch_frame (l : Lane) (x : InState) (target : Profile) (tagTimer : Option Nat) (s : State) :
    (awaitSwitch l x target tagTimer s).mdp = s.mdp ∧ (awaitSwitch l x target tagTimer s).qg = s.qg ∧
    (awaitSwitch l x target tagTimer s).pst = s.pst ∧
    (awaitSwitch l x target tagTimer s).se.outCtx = s.se.outCtx ∧
    (awaitSwitch l x target tagTimer s).se.peerSilent = s.se.peerSilent ∧
    (awaitSwitch l x target tagTimer s).se.flip = s.se.flip ∧ (awaitSwitch l x target tagTimer s).ohl = s.ohl ∧
    (awaitSwitch l x target tagTimer s).sws = s.sws ∧ (awaitSwitch l x target tagTimer s).cal = s.cal ∧
    (awaitSwitch l x target tagTimer s).trp = s.trp ∧ (awaitSwitch l x target tagTimer s).mgp = s.mgp ∧
    (awaitSwitch l x target tagTimer s).prc = s.prc ∧
    (awaitSwitch l x target tagTimer s).modemOut = s.modemOut ∧
    (awaitSwitch l x target tagTimer s).shares = s.shares ∧
    (awaitSwitch l x target tagTimer s).pending = s.pending := by
  simp [awaitSwitch]

@[simp] theorem anchorGrant_frame (l : Lane) (target : Profile) (e : Sfn) (s : State) :
    (anchorGrant l target e s).mdp = s.mdp ∧ (anchorGrant l target e s).qg = s.qg ∧
    (anchorGrant l target e s).pst = s.pst ∧ (anchorGrant l target e s).se.peerSilent = s.se.peerSilent ∧
    (anchorGrant l target e s).se.flip = s.se.flip ∧ (anchorGrant l target e s).ohl.deframer = s.ohl.deframer ∧
    (anchorGrant l target e s).ohl.lock = s.ohl.lock ∧ (anchorGrant l target e s).ohl.silence = s.ohl.silence ∧
    (anchorGrant l target e s).ohl.beacon = s.ohl.beacon ∧ (anchorGrant l target e s).ohl.far = s.ohl.far ∧
    (anchorGrant l target e s).cal = s.cal ∧ (anchorGrant l target e s).mgp.cursor = s.mgp.cursor ∧
    (anchorGrant l target e s).mgp.enables = s.mgp.enables ∧
    (anchorGrant l target e s).mgp.laneParams = s.mgp.laneParams ∧
    (anchorGrant l target e s).mgp.params = s.mgp.params ∧
    (anchorGrant l target e s).mgp.response = s.mgp.response ∧
    (anchorGrant l target e s).prc.ring = s.prc.ring ∧
    (anchorGrant l target e s).prc.building = s.prc.building ∧
    (anchorGrant l target e s).prc.second = s.prc.second ∧
    (anchorGrant l target e s).prc.histogram = s.prc.histogram ∧
    (anchorGrant l target e s).modemOut = s.modemOut ∧ (anchorGrant l target e s).shares = s.shares ∧
    (anchorGrant l target e s).pending = s.pending := by
  simp only [anchorGrant]; (repeat' split) <;> simp

@[simp] theorem placeGrant_frame (l : Lane) (target : Profile) (epoch : Sfn) (s : State) :
    (placeGrant l target epoch s).mdp = s.mdp ∧ (placeGrant l target epoch s).qg = s.qg ∧
    (placeGrant l target epoch s).pst = s.pst ∧ (placeGrant l target epoch s).se.peerSilent = s.se.peerSilent ∧
    (placeGrant l target epoch s).se.flip = s.se.flip ∧
    (placeGrant l target epoch s).ohl.deframer = s.ohl.deframer ∧
    (placeGrant l target epoch s).ohl.lock = s.ohl.lock ∧
    (placeGrant l target epoch s).ohl.silence = s.ohl.silence ∧
    (placeGrant l target epoch s).ohl.beacon = s.ohl.beacon ∧
    (placeGrant l target epoch s).ohl.far = s.ohl.far ∧ (placeGrant l target epoch s).cal = s.cal ∧
    (placeGrant l target epoch s).mgp.cursor = s.mgp.cursor ∧
    (placeGrant l target epoch s).mgp.enables = s.mgp.enables ∧
    (placeGrant l target epoch s).mgp.laneParams = s.mgp.laneParams ∧
    (placeGrant l target epoch s).mgp.params = s.mgp.params ∧
    (placeGrant l target epoch s).mgp.response = s.mgp.response ∧
    (placeGrant l target epoch s).prc.ring = s.prc.ring ∧
    (placeGrant l target epoch s).prc.building = s.prc.building ∧
    (placeGrant l target epoch s).prc.second = s.prc.second ∧
    (placeGrant l target epoch s).prc.histogram = s.prc.histogram ∧
    (placeGrant l target epoch s).modemOut = s.modemOut ∧ (placeGrant l target epoch s).shares = s.shares ∧
    (placeGrant l target epoch s).pending = s.pending := by
  simp only [placeGrant]; (repeat' split) <;> simp

@[simp] theorem takeGrant_frame (l : Lane) (toggle : Bool) (target : Profile) (epoch : Sfn) (s : State) :
    (takeGrant l toggle target epoch s).mdp = s.mdp ∧ (takeGrant l toggle target epoch s).qg = s.qg ∧
    (takeGrant l toggle target epoch s).pst = s.pst ∧
    (takeGrant l toggle target epoch s).se.peerSilent = s.se.peerSilent ∧
    (takeGrant l toggle target epoch s).se.flip = s.se.flip ∧
    (takeGrant l toggle target epoch s).ohl.deframer = s.ohl.deframer ∧
    (takeGrant l toggle target epoch s).ohl.lock = s.ohl.lock ∧
    (takeGrant l toggle target epoch s).ohl.silence = s.ohl.silence ∧
    (takeGrant l toggle target epoch s).ohl.beacon = s.ohl.beacon ∧
    (takeGrant l toggle target epoch s).ohl.far = s.ohl.far ∧ (takeGrant l toggle target epoch s).cal = s.cal ∧
    (takeGrant l toggle target epoch s).mgp.cursor = s.mgp.cursor ∧
    (takeGrant l toggle target epoch s).mgp.enables = s.mgp.enables ∧
    (takeGrant l toggle target epoch s).mgp.laneParams = s.mgp.laneParams ∧
    (takeGrant l toggle target epoch s).mgp.params = s.mgp.params ∧
    (takeGrant l toggle target epoch s).mgp.response = s.mgp.response ∧
    (takeGrant l toggle target epoch s).prc.ring = s.prc.ring ∧
    (takeGrant l toggle target epoch s).prc.building = s.prc.building ∧
    (takeGrant l toggle target epoch s).prc.second = s.prc.second ∧
    (takeGrant l toggle target epoch s).prc.histogram = s.prc.histogram ∧
    (takeGrant l toggle target epoch s).modemOut = s.modemOut ∧
    (takeGrant l toggle target epoch s).shares = s.shares ∧
    (takeGrant l toggle target epoch s).pending = s.pending := by
  simp only [takeGrant]; (repeat' split) <;> simp

@[simp] theorem holdContext_frame (l : Lane) (r : HoldReason) (s : State) :
    (holdContext l r s).mdp = s.mdp ∧ (holdContext l r s).qg = s.qg ∧ (holdContext l r s).pst = s.pst ∧
    (holdContext l r s).se.outCtx = s.se.outCtx ∧ (holdContext l r s).se.peerSilent = s.se.peerSilent ∧
    (holdContext l r s).se.flip = s.se.flip ∧ (holdContext l r s).ohl = s.ohl ∧
    (holdContext l r s).sws = s.sws ∧ (holdContext l r s).cal = s.cal ∧ (holdContext l r s).trp = s.trp ∧
    (holdContext l r s).mgp = s.mgp ∧ (holdContext l r s).prc = s.prc ∧
    (holdContext l r s).modemOut = s.modemOut ∧ (holdContext l r s).shares = s.shares ∧
    (holdContext l r s).pending = s.pending := by
  simp [holdContext]

@[simp] theorem refused_frame (l : Lane) (a : OutstandingAsk) (reason : RefuseReason) (s : State) :
    (refused l a reason s).mdp = s.mdp ∧ (refused l a reason s).qg = s.qg ∧ (refused l a reason s).pst = s.pst ∧
    (refused l a reason s).se.outCtx = s.se.outCtx ∧ (refused l a reason s).se.peerSilent = s.se.peerSilent ∧
    (refused l a reason s).se.flip = s.se.flip ∧ (refused l a reason s).ohl.deframer = s.ohl.deframer ∧
    (refused l a reason s).ohl.lock = s.ohl.lock ∧ (refused l a reason s).ohl.silence = s.ohl.silence ∧
    (refused l a reason s).ohl.beacon = s.ohl.beacon ∧ (refused l a reason s).ohl.far = s.ohl.far ∧
    (refused l a reason s).sws = s.sws ∧ (refused l a reason s).cal = s.cal ∧
    (refused l a reason s).trp = s.trp ∧ (refused l a reason s).mgp.cursor = s.mgp.cursor ∧
    (refused l a reason s).mgp.enables = s.mgp.enables ∧
    (refused l a reason s).mgp.laneParams = s.mgp.laneParams ∧
    (refused l a reason s).mgp.params = s.mgp.params ∧ (refused l a reason s).mgp.response = s.mgp.response ∧
    (refused l a reason s).prc.ring = s.prc.ring ∧ (refused l a reason s).prc.building = s.prc.building ∧
    (refused l a reason s).prc.second = s.prc.second ∧ (refused l a reason s).prc.histogram = s.prc.histogram ∧
    (refused l a reason s).modemOut = s.modemOut ∧ (refused l a reason s).shares = s.shares ∧
    (refused l a reason s).pending = s.pending := by
  simp only [refused]; (repeat' split) <;> simp

@[simp] theorem takeRefuse_frame (l : Lane) (toggle : Bool) (target : Profile) (reason : RefuseReason) (s : State) :
    (takeRefuse l toggle target reason s).mdp = s.mdp ∧ (takeRefuse l toggle target reason s).qg = s.qg ∧
    (takeRefuse l toggle target reason s).pst = s.pst ∧
    (takeRefuse l toggle target reason s).se.outCtx = s.se.outCtx ∧
    (takeRefuse l toggle target reason s).se.peerSilent = s.se.peerSilent ∧
    (takeRefuse l toggle target reason s).se.flip = s.se.flip ∧
    (takeRefuse l toggle target reason s).ohl.deframer = s.ohl.deframer ∧
    (takeRefuse l toggle target reason s).ohl.lock = s.ohl.lock ∧
    (takeRefuse l toggle target reason s).ohl.silence = s.ohl.silence ∧
    (takeRefuse l toggle target reason s).ohl.beacon = s.ohl.beacon ∧
    (takeRefuse l toggle target reason s).ohl.far = s.ohl.far ∧
    (takeRefuse l toggle target reason s).sws = s.sws ∧ (takeRefuse l toggle target reason s).cal = s.cal ∧
    (takeRefuse l toggle target reason s).trp = s.trp ∧
    (takeRefuse l toggle target reason s).mgp.cursor = s.mgp.cursor ∧
    (takeRefuse l toggle target reason s).mgp.enables = s.mgp.enables ∧
    (takeRefuse l toggle target reason s).mgp.laneParams = s.mgp.laneParams ∧
    (takeRefuse l toggle target reason s).mgp.params = s.mgp.params ∧
    (takeRefuse l toggle target reason s).mgp.response = s.mgp.response ∧
    (takeRefuse l toggle target reason s).prc.ring = s.prc.ring ∧
    (takeRefuse l toggle target reason s).prc.building = s.prc.building ∧
    (takeRefuse l toggle target reason s).prc.second = s.prc.second ∧
    (takeRefuse l toggle target reason s).prc.histogram = s.prc.histogram ∧
    (takeRefuse l toggle target reason s).modemOut = s.modemOut ∧
    (takeRefuse l toggle target reason s).shares = s.shares ∧
    (takeRefuse l toggle target reason s).pending = s.pending := by
  simp only [takeRefuse]; (repeat' split) <;> simp

@[simp] theorem leaveHeld_frame (l : Lane) (s : State) :
    (leaveHeld l s).mdp = s.mdp ∧ (leaveHeld l s).qg = s.qg ∧ (leaveHeld l s).pst = s.pst ∧
    (leaveHeld l s).se.outCtx = s.se.outCtx ∧ (leaveHeld l s).se.peerSilent = s.se.peerSilent ∧
    (leaveHeld l s).se.flip = s.se.flip ∧ (leaveHeld l s).ohl.deframer = s.ohl.deframer ∧
    (leaveHeld l s).ohl.lock = s.ohl.lock ∧ (leaveHeld l s).ohl.silence = s.ohl.silence ∧
    (leaveHeld l s).ohl.beacon = s.ohl.beacon ∧ (leaveHeld l s).ohl.far = s.ohl.far ∧
    (leaveHeld l s).sws = s.sws ∧ (leaveHeld l s).cal = s.cal ∧ (leaveHeld l s).trp = s.trp ∧
    (leaveHeld l s).mgp.cursor = s.mgp.cursor ∧ (leaveHeld l s).mgp.enables = s.mgp.enables ∧
    (leaveHeld l s).mgp.laneParams = s.mgp.laneParams ∧ (leaveHeld l s).mgp.params = s.mgp.params ∧
    (leaveHeld l s).mgp.response = s.mgp.response ∧ (leaveHeld l s).prc.ring = s.prc.ring ∧
    (leaveHeld l s).prc.building = s.prc.building ∧ (leaveHeld l s).prc.second = s.prc.second ∧
    (leaveHeld l s).prc.histogram = s.prc.histogram ∧ (leaveHeld l s).modemOut = s.modemOut ∧
    (leaveHeld l s).shares = s.shares ∧ (leaveHeld l s).pending = s.pending := by
  simp [leaveHeld]

@[simp] theorem beaconHeld_frame (l : Lane) (digest : Digest) (x : LaneStatus) (s : State) :
    (beaconHeld l digest x s).mdp = s.mdp ∧ (beaconHeld l digest x s).qg = s.qg ∧
    (beaconHeld l digest x s).pst = s.pst ∧ (beaconHeld l digest x s).se.outCtx = s.se.outCtx ∧
    (beaconHeld l digest x s).se.peerSilent = s.se.peerSilent ∧ (beaconHeld l digest x s).se.flip = s.se.flip ∧
    (beaconHeld l digest x s).ohl.deframer = s.ohl.deframer ∧ (beaconHeld l digest x s).ohl.lock = s.ohl.lock ∧
    (beaconHeld l digest x s).ohl.silence = s.ohl.silence ∧
    (beaconHeld l digest x s).ohl.beacon = s.ohl.beacon ∧ (beaconHeld l digest x s).ohl.far = s.ohl.far ∧
    (beaconHeld l digest x s).sws = s.sws ∧ (beaconHeld l digest x s).cal = s.cal ∧
    (beaconHeld l digest x s).trp = s.trp ∧ (beaconHeld l digest x s).mgp.cursor = s.mgp.cursor ∧
    (beaconHeld l digest x s).mgp.enables = s.mgp.enables ∧
    (beaconHeld l digest x s).mgp.laneParams = s.mgp.laneParams ∧
    (beaconHeld l digest x s).mgp.params = s.mgp.params ∧
    (beaconHeld l digest x s).mgp.response = s.mgp.response ∧ (beaconHeld l digest x s).prc.ring = s.prc.ring ∧
    (beaconHeld l digest x s).prc.building = s.prc.building ∧
    (beaconHeld l digest x s).prc.second = s.prc.second ∧
    (beaconHeld l digest x s).prc.histogram = s.prc.histogram ∧
    (beaconHeld l digest x s).modemOut = s.modemOut ∧ (beaconHeld l digest x s).shares = s.shares ∧
    (beaconHeld l digest x s).pending = s.pending := by
  simp only [beaconHeld]; (repeat' split) <;> simp

@[simp] theorem beaconIn_frame (l : Lane) (digest : Digest) (x : LaneStatus) (s : State) :
    (beaconIn l digest x s).mdp = s.mdp ∧ (beaconIn l digest x s).qg = s.qg ∧
    (beaconIn l digest x s).pst = s.pst ∧ (beaconIn l digest x s).se.outCtx = s.se.outCtx ∧
    (beaconIn l digest x s).se.peerSilent = s.se.peerSilent ∧ (beaconIn l digest x s).se.flip = s.se.flip ∧
    (beaconIn l digest x s).ohl.deframer = s.ohl.deframer ∧ (beaconIn l digest x s).ohl.lock = s.ohl.lock ∧
    (beaconIn l digest x s).ohl.silence = s.ohl.silence ∧ (beaconIn l digest x s).ohl.beacon = s.ohl.beacon ∧
    (beaconIn l digest x s).ohl.far = s.ohl.far ∧ (beaconIn l digest x s).sws = s.sws ∧
    (beaconIn l digest x s).cal = s.cal ∧ (beaconIn l digest x s).trp = s.trp ∧
    (beaconIn l digest x s).mgp.cursor = s.mgp.cursor ∧ (beaconIn l digest x s).mgp.enables = s.mgp.enables ∧
    (beaconIn l digest x s).mgp.laneParams = s.mgp.laneParams ∧
    (beaconIn l digest x s).mgp.params = s.mgp.params ∧ (beaconIn l digest x s).mgp.response = s.mgp.response ∧
    (beaconIn l digest x s).prc.ring = s.prc.ring ∧ (beaconIn l digest x s).prc.building = s.prc.building ∧
    (beaconIn l digest x s).prc.second = s.prc.second ∧
    (beaconIn l digest x s).prc.histogram = s.prc.histogram ∧ (beaconIn l digest x s).modemOut = s.modemOut ∧
    (beaconIn l digest x s).shares = s.shares ∧ (beaconIn l digest x s).pending = s.pending := by
  simp only [beaconIn]; (repeat' split) <;> simp

/-! ## What an answer does -/

theorem giveAnswer_outCtx (l : Lane) (a : Answer) (s : State) :
    (giveAnswer l a s).se.outCtx = s.se.outCtx.set l { s.outCtx l with lastAnswer := some a } := by
  simp [giveAnswer]

theorem giveAnswer_tx (l : Lane) (a : Answer) (s : State) :
    (giveAnswer l a s).ohl.tx = { s.ohl.tx with reply := s.ohl.tx.reply.set l (some a) } := by
  simp [giveAnswer]

end Sys2Proof.Machine
end

