-- ==== Sys2Proof/Laws/Link.lean ====
section
/-! SUPPORT. What the overhead link writes, and what it leaves alone. -/

namespace Sys2Proof.Machine

@[simp] theorem dropLock_frame (s : State) :
    (dropLock s).mdp = s.mdp ∧ (dropLock s).qg = s.qg ∧ (dropLock s).pst = s.pst ∧ (dropLock s).se = s.se ∧
    (dropLock s).ohl.deframer = s.ohl.deframer ∧ (dropLock s).ohl.silence = s.ohl.silence ∧
    (dropLock s).ohl.beacon = s.ohl.beacon ∧ (dropLock s).ohl.tx = s.ohl.tx ∧ (dropLock s).ohl.far = s.ohl.far ∧
    (dropLock s).sws = s.sws ∧ (dropLock s).cal = s.cal ∧ (dropLock s).trp = s.trp ∧
    (dropLock s).mgp.cursor = s.mgp.cursor ∧ (dropLock s).mgp.enables = s.mgp.enables ∧
    (dropLock s).mgp.laneParams = s.mgp.laneParams ∧ (dropLock s).mgp.params = s.mgp.params ∧
    (dropLock s).mgp.response = s.mgp.response ∧ (dropLock s).prc.ring = s.prc.ring ∧
    (dropLock s).prc.second = s.prc.second ∧ (dropLock s).prc.histogram = s.prc.histogram ∧
    (dropLock s).modemOut = s.modemOut ∧ (dropLock s).shares = s.shares ∧ (dropLock s).pending = s.pending := by
  simp [dropLock]

@[simp] theorem updateLock_frame (f : Sfn) (s : State) :
    (updateLock f s).mdp = s.mdp ∧ (updateLock f s).qg = s.qg ∧ (updateLock f s).pst = s.pst ∧
    (updateLock f s).se = s.se ∧ (updateLock f s).ohl.deframer = s.ohl.deframer ∧
    (updateLock f s).ohl.silence = s.ohl.silence ∧ (updateLock f s).ohl.beacon = s.ohl.beacon ∧
    (updateLock f s).ohl.tx = s.ohl.tx ∧ (updateLock f s).ohl.far = s.ohl.far ∧ (updateLock f s).sws = s.sws ∧
    (updateLock f s).cal = s.cal ∧ (updateLock f s).trp = s.trp ∧ (updateLock f s).mgp.cursor = s.mgp.cursor ∧
    (updateLock f s).mgp.enables = s.mgp.enables ∧ (updateLock f s).mgp.laneParams = s.mgp.laneParams ∧
    (updateLock f s).mgp.params = s.mgp.params ∧ (updateLock f s).mgp.response = s.mgp.response ∧
    (updateLock f s).prc.ring = s.prc.ring ∧ (updateLock f s).prc.second = s.prc.second ∧
    (updateLock f s).prc.histogram = s.prc.histogram ∧ (updateLock f s).modemOut = s.modemOut ∧
    (updateLock f s).shares = s.shares ∧ (updateLock f s).pending = s.pending := by
  simp only [updateLock]; (repeat' split) <;> simp

@[simp] theorem hearFrame_frame (times : FrameTimes) (s : State) :
    (hearFrame times s).mdp = s.mdp ∧ (hearFrame times s).qg = s.qg ∧ (hearFrame times s).pst = s.pst ∧
    (hearFrame times s).se.flip = s.se.flip ∧ (hearFrame times s).ohl.deframer = s.ohl.deframer ∧
    (hearFrame times s).ohl.beacon = s.ohl.beacon ∧ (hearFrame times s).ohl.far = s.ohl.far ∧
    (hearFrame times s).cal = s.cal ∧ (hearFrame times s).mgp.cursor = s.mgp.cursor ∧
    (hearFrame times s).mgp.enables = s.mgp.enables ∧ (hearFrame times s).mgp.laneParams = s.mgp.laneParams ∧
    (hearFrame times s).mgp.params = s.mgp.params ∧ (hearFrame times s).mgp.response = s.mgp.response ∧
    (hearFrame times s).prc.ring = s.prc.ring ∧ (hearFrame times s).prc.second = s.prc.second ∧
    (hearFrame times s).prc.histogram = s.prc.histogram ∧ (hearFrame times s).modemOut = s.modemOut ∧
    (hearFrame times s).shares = s.shares ∧ (hearFrame times s).pending = s.pending := by
  simp [hearFrame]

@[simp] theorem storeFar_frame (l : Lane) (x : LaneStatus) (s : State) :
    (storeFar l x s).mdp = s.mdp ∧ (storeFar l x s).qg = s.qg ∧ (storeFar l x s).pst = s.pst ∧
    (storeFar l x s).se = s.se ∧ (storeFar l x s).ohl.deframer = s.ohl.deframer ∧
    (storeFar l x s).ohl.lock = s.ohl.lock ∧ (storeFar l x s).ohl.silence = s.ohl.silence ∧
    (storeFar l x s).ohl.beacon = s.ohl.beacon ∧ (storeFar l x s).ohl.tx = s.ohl.tx ∧
    (storeFar l x s).sws = s.sws ∧ (storeFar l x s).cal = s.cal ∧ (storeFar l x s).trp = s.trp ∧
    (storeFar l x s).mgp = s.mgp ∧ (storeFar l x s).prc.counters = s.prc.counters ∧
    (storeFar l x s).prc.ring = s.prc.ring ∧ (storeFar l x s).prc.second = s.prc.second ∧
    (storeFar l x s).prc.histogram = s.prc.histogram ∧ (storeFar l x s).modemOut = s.modemOut ∧
    (storeFar l x s).shares = s.shares ∧ (storeFar l x s).pending = s.pending := by
  simp [storeFar]

@[simp] theorem compareLanes_frame (x : LaneStatus) (y : LaneStatus) (s : State) :
    (compareLanes x y s).mdp = s.mdp ∧ (compareLanes x y s).qg = s.qg ∧ (compareLanes x y s).pst = s.pst ∧
    (compareLanes x y s).se = s.se ∧ (compareLanes x y s).ohl = s.ohl ∧ (compareLanes x y s).sws = s.sws ∧
    (compareLanes x y s).cal = s.cal ∧ (compareLanes x y s).trp = s.trp ∧
    (compareLanes x y s).mgp.cursor = s.mgp.cursor ∧ (compareLanes x y s).mgp.enables = s.mgp.enables ∧
    (compareLanes x y s).mgp.laneParams = s.mgp.laneParams ∧ (compareLanes x y s).mgp.params = s.mgp.params ∧
    (compareLanes x y s).mgp.response = s.mgp.response ∧ (compareLanes x y s).prc = s.prc ∧
    (compareLanes x y s).modemOut = s.modemOut ∧ (compareLanes x y s).shares = s.shares ∧
    (compareLanes x y s).pending = s.pending := by
  simp only [compareLanes]; (repeat' split) <;> simp

@[simp] theorem takeBeacon_frame (digest : Digest) (x : LaneStatus) (y : LaneStatus) (s : State) :
    (takeBeacon digest x y s).mdp = s.mdp ∧ (takeBeacon digest x y s).qg = s.qg ∧
    (takeBeacon digest x y s).pst = s.pst ∧ (takeBeacon digest x y s).se.outCtx = s.se.outCtx ∧
    (takeBeacon digest x y s).se.peerSilent = s.se.peerSilent ∧
    (takeBeacon digest x y s).ohl.deframer = s.ohl.deframer ∧ (takeBeacon digest x y s).ohl.lock = s.ohl.lock ∧
    (takeBeacon digest x y s).ohl.silence = s.ohl.silence ∧
    (takeBeacon digest x y s).ohl.beacon = s.ohl.beacon ∧ (takeBeacon digest x y s).sws = s.sws ∧
    (takeBeacon digest x y s).cal = s.cal ∧ (takeBeacon digest x y s).trp = s.trp ∧
    (takeBeacon digest x y s).mgp.cursor = s.mgp.cursor ∧
    (takeBeacon digest x y s).mgp.enables = s.mgp.enables ∧
    (takeBeacon digest x y s).mgp.laneParams = s.mgp.laneParams ∧
    (takeBeacon digest x y s).mgp.params = s.mgp.params ∧
    (takeBeacon digest x y s).mgp.response = s.mgp.response ∧ (takeBeacon digest x y s).prc.ring = s.prc.ring ∧
    (takeBeacon digest x y s).prc.second = s.prc.second ∧
    (takeBeacon digest x y s).prc.histogram = s.prc.histogram ∧
    (takeBeacon digest x y s).modemOut = s.modemOut ∧ (takeBeacon digest x y s).shares = s.shares ∧
    (takeBeacon digest x y s).pending = s.pending := by
  simp [takeBeacon]

@[simp] theorem dispatch_frame (f : Frame) (s : State) :
    (dispatch f s).mdp = s.mdp ∧ (dispatch f s).qg = s.qg ∧ (dispatch f s).pst.bankA = s.pst.bankA ∧
    (dispatch f s).pst.bankB = s.pst.bankB ∧ (dispatch f s).pst.live = s.pst.live ∧
    (dispatch f s).pst.digestA = s.pst.digestA ∧ (dispatch f s).pst.digestB = s.pst.digestB ∧
    (dispatch f s).pst.masks = s.pst.masks ∧ (dispatch f s).se.peerSilent = s.se.peerSilent ∧
    (dispatch f s).ohl.deframer = s.ohl.deframer ∧ (dispatch f s).ohl.lock = s.ohl.lock ∧
    (dispatch f s).ohl.silence = s.ohl.silence ∧ (dispatch f s).ohl.beacon = s.ohl.beacon ∧
    (dispatch f s).cal = s.cal ∧ (dispatch f s).mgp.cursor = s.mgp.cursor ∧
    (dispatch f s).mgp.enables = s.mgp.enables ∧ (dispatch f s).mgp.laneParams = s.mgp.laneParams ∧
    (dispatch f s).mgp.params = s.mgp.params ∧ (dispatch f s).mgp.response = s.mgp.response ∧
    (dispatch f s).prc.ring = s.prc.ring ∧ (dispatch f s).prc.second = s.prc.second ∧
    (dispatch f s).prc.histogram = s.prc.histogram ∧ (dispatch f s).modemOut = s.modemOut ∧
    (dispatch f s).shares = s.shares ∧ (dispatch f s).pending = s.pending := by
  simp only [dispatch]; (repeat' split) <;> simp

@[simp] theorem goodFrame_frame (times : FrameTimes) (f : Frame) (s : State) :
    (goodFrame times f s).mdp = s.mdp ∧ (goodFrame times f s).qg = s.qg ∧
    (goodFrame times f s).pst.bankA = s.pst.bankA ∧ (goodFrame times f s).pst.bankB = s.pst.bankB ∧
    (goodFrame times f s).pst.live = s.pst.live ∧ (goodFrame times f s).pst.digestA = s.pst.digestA ∧
    (goodFrame times f s).pst.digestB = s.pst.digestB ∧ (goodFrame times f s).pst.masks = s.pst.masks ∧
    (goodFrame times f s).ohl.deframer = s.ohl.deframer ∧ (goodFrame times f s).ohl.beacon = s.ohl.beacon ∧
    (goodFrame times f s).cal = s.cal ∧ (goodFrame times f s).mgp.cursor = s.mgp.cursor ∧
    (goodFrame times f s).mgp.enables = s.mgp.enables ∧
    (goodFrame times f s).mgp.laneParams = s.mgp.laneParams ∧ (goodFrame times f s).mgp.params = s.mgp.params ∧
    (goodFrame times f s).mgp.response = s.mgp.response ∧ (goodFrame times f s).prc.ring = s.prc.ring ∧
    (goodFrame times f s).prc.second = s.prc.second ∧ (goodFrame times f s).prc.histogram = s.prc.histogram ∧
    (goodFrame times f s).modemOut = s.modemOut ∧ (goodFrame times f s).shares = s.shares ∧
    (goodFrame times f s).pending = s.pending := by
  simp [goodFrame]

@[simp] theorem checkCandidate_frame (bits : List Bool) (arrival : Sfn) (s : State) :
    (checkCandidate bits arrival s).mdp = s.mdp ∧ (checkCandidate bits arrival s).qg = s.qg ∧
    (checkCandidate bits arrival s).pst.bankA = s.pst.bankA ∧
    (checkCandidate bits arrival s).pst.bankB = s.pst.bankB ∧
    (checkCandidate bits arrival s).pst.live = s.pst.live ∧
    (checkCandidate bits arrival s).pst.digestA = s.pst.digestA ∧
    (checkCandidate bits arrival s).pst.digestB = s.pst.digestB ∧
    (checkCandidate bits arrival s).pst.masks = s.pst.masks ∧
    (checkCandidate bits arrival s).ohl.deframer = s.ohl.deframer ∧
    (checkCandidate bits arrival s).ohl.beacon = s.ohl.beacon ∧ (checkCandidate bits arrival s).cal = s.cal ∧
    (checkCandidate bits arrival s).mgp.cursor = s.mgp.cursor ∧
    (checkCandidate bits arrival s).mgp.enables = s.mgp.enables ∧
    (checkCandidate bits arrival s).mgp.laneParams = s.mgp.laneParams ∧
    (checkCandidate bits arrival s).mgp.params = s.mgp.params ∧
    (checkCandidate bits arrival s).mgp.response = s.mgp.response ∧
    (checkCandidate bits arrival s).prc.ring = s.prc.ring ∧
    (checkCandidate bits arrival s).prc.second = s.prc.second ∧
    (checkCandidate bits arrival s).prc.histogram = s.prc.histogram ∧
    (checkCandidate bits arrival s).modemOut = s.modemOut ∧ (checkCandidate bits arrival s).shares = s.shares ∧
    (checkCandidate bits arrival s).pending = s.pending := by
  simp only [checkCandidate]; (repeat' split) <;> simp

@[simp] theorem abandon_frame (why : OhlCounter) (s : State) :
    (abandon why s).mdp = s.mdp ∧ (abandon why s).qg = s.qg ∧ (abandon why s).pst = s.pst ∧
    (abandon why s).se = s.se ∧ (abandon why s).ohl.lock = s.ohl.lock ∧
    (abandon why s).ohl.silence = s.ohl.silence ∧ (abandon why s).ohl.beacon = s.ohl.beacon ∧
    (abandon why s).ohl.tx = s.ohl.tx ∧ (abandon why s).ohl.far = s.ohl.far ∧ (abandon why s).sws = s.sws ∧
    (abandon why s).cal = s.cal ∧ (abandon why s).trp = s.trp ∧ (abandon why s).mgp.cursor = s.mgp.cursor ∧
    (abandon why s).mgp.enables = s.mgp.enables ∧ (abandon why s).mgp.laneParams = s.mgp.laneParams ∧
    (abandon why s).mgp.params = s.mgp.params ∧ (abandon why s).mgp.response = s.mgp.response ∧
    (abandon why s).prc.ring = s.prc.ring ∧ (abandon why s).prc.building = s.prc.building ∧
    (abandon why s).prc.second = s.prc.second ∧ (abandon why s).prc.histogram = s.prc.histogram ∧
    (abandon why s).modemOut = s.modemOut ∧ (abandon why s).shares = s.shares ∧
    (abandon why s).pending = s.pending := by
  simp only [abandon]; (repeat' split) <;> simp

@[simp] theorem takeFlag_frame (arrival : Sfn) (s : State) :
    (takeFlag arrival s).mdp = s.mdp ∧ (takeFlag arrival s).qg = s.qg ∧
    (takeFlag arrival s).pst.bankA = s.pst.bankA ∧ (takeFlag arrival s).pst.bankB = s.pst.bankB ∧
    (takeFlag arrival s).pst.live = s.pst.live ∧ (takeFlag arrival s).pst.digestA = s.pst.digestA ∧
    (takeFlag arrival s).pst.digestB = s.pst.digestB ∧ (takeFlag arrival s).pst.masks = s.pst.masks ∧
    (takeFlag arrival s).ohl.beacon = s.ohl.beacon ∧ (takeFlag arrival s).cal = s.cal ∧
    (takeFlag arrival s).mgp.cursor = s.mgp.cursor ∧ (takeFlag arrival s).mgp.enables = s.mgp.enables ∧
    (takeFlag arrival s).mgp.laneParams = s.mgp.laneParams ∧ (takeFlag arrival s).mgp.params = s.mgp.params ∧
    (takeFlag arrival s).mgp.response = s.mgp.response ∧ (takeFlag arrival s).prc.ring = s.prc.ring ∧
    (takeFlag arrival s).prc.second = s.prc.second ∧ (takeFlag arrival s).prc.histogram = s.prc.histogram ∧
    (takeFlag arrival s).modemOut = s.modemOut ∧ (takeFlag arrival s).shares = s.shares ∧
    (takeFlag arrival s).pending = s.pending := by
  simp only [takeFlag]; (repeat' split) <;> simp

@[simp] theorem collect_frame (arrival : Sfn) (s : State) :
    (collect arrival s).mdp = s.mdp ∧ (collect arrival s).qg = s.qg ∧ (collect arrival s).pst = s.pst ∧
    (collect arrival s).se = s.se ∧ (collect arrival s).ohl.lock = s.ohl.lock ∧
    (collect arrival s).ohl.silence = s.ohl.silence ∧ (collect arrival s).ohl.beacon = s.ohl.beacon ∧
    (collect arrival s).ohl.tx = s.ohl.tx ∧ (collect arrival s).ohl.far = s.ohl.far ∧
    (collect arrival s).sws = s.sws ∧ (collect arrival s).cal = s.cal ∧ (collect arrival s).trp = s.trp ∧
    (collect arrival s).mgp.cursor = s.mgp.cursor ∧ (collect arrival s).mgp.enables = s.mgp.enables ∧
    (collect arrival s).mgp.laneParams = s.mgp.laneParams ∧ (collect arrival s).mgp.params = s.mgp.params ∧
    (collect arrival s).mgp.response = s.mgp.response ∧ (collect arrival s).prc.ring = s.prc.ring ∧
    (collect arrival s).prc.building = s.prc.building ∧ (collect arrival s).prc.second = s.prc.second ∧
    (collect arrival s).prc.histogram = s.prc.histogram ∧ (collect arrival s).modemOut = s.modemOut ∧
    (collect arrival s).shares = s.shares ∧ (collect arrival s).pending = s.pending := by
  simp only [collect]; (repeat' split) <;> simp

@[simp] theorem takeBit_frame (arrival : Sfn) (s : State) (bit : Bool) :
    (takeBit arrival s bit).mdp = s.mdp ∧ (takeBit arrival s bit).qg = s.qg ∧
    (takeBit arrival s bit).pst.bankA = s.pst.bankA ∧ (takeBit arrival s bit).pst.bankB = s.pst.bankB ∧
    (takeBit arrival s bit).pst.live = s.pst.live ∧ (takeBit arrival s bit).pst.digestA = s.pst.digestA ∧
    (takeBit arrival s bit).pst.digestB = s.pst.digestB ∧ (takeBit arrival s bit).pst.masks = s.pst.masks ∧
    (takeBit arrival s bit).ohl.beacon = s.ohl.beacon ∧ (takeBit arrival s bit).cal = s.cal ∧
    (takeBit arrival s bit).mgp.cursor = s.mgp.cursor ∧ (takeBit arrival s bit).mgp.enables = s.mgp.enables ∧
    (takeBit arrival s bit).mgp.laneParams = s.mgp.laneParams ∧
    (takeBit arrival s bit).mgp.params = s.mgp.params ∧ (takeBit arrival s bit).mgp.response = s.mgp.response ∧
    (takeBit arrival s bit).prc.ring = s.prc.ring ∧ (takeBit arrival s bit).prc.second = s.prc.second ∧
    (takeBit arrival s bit).prc.histogram = s.prc.histogram ∧ (takeBit arrival s bit).modemOut = s.modemOut ∧
    (takeBit arrival s bit).shares = s.shares ∧ (takeBit arrival s bit).pending = s.pending := by
  simp only [takeBit]; (repeat' split) <;> simp

@[simp] theorem takeSegment_frame (valid : Bool) (segment : BitVec 64) (s : State) :
    (takeSegment valid segment s).mdp = s.mdp ∧ (takeSegment valid segment s).qg = s.qg ∧
    (takeSegment valid segment s).pst.bankA = s.pst.bankA ∧
    (takeSegment valid segment s).pst.bankB = s.pst.bankB ∧
    (takeSegment valid segment s).pst.live = s.pst.live ∧
    (takeSegment valid segment s).pst.digestA = s.pst.digestA ∧
    (takeSegment valid segment s).pst.digestB = s.pst.digestB ∧
    (takeSegment valid segment s).pst.masks = s.pst.masks ∧
    (takeSegment valid segment s).ohl.beacon = s.ohl.beacon ∧ (takeSegment valid segment s).cal = s.cal ∧
    (takeSegment valid segment s).mgp.cursor = s.mgp.cursor ∧
    (takeSegment valid segment s).mgp.enables = s.mgp.enables ∧
    (takeSegment valid segment s).mgp.laneParams = s.mgp.laneParams ∧
    (takeSegment valid segment s).mgp.params = s.mgp.params ∧
    (takeSegment valid segment s).mgp.response = s.mgp.response ∧
    (takeSegment valid segment s).prc.ring = s.prc.ring ∧
    (takeSegment valid segment s).prc.second = s.prc.second ∧
    (takeSegment valid segment s).prc.histogram = s.prc.histogram ∧
    (takeSegment valid segment s).modemOut = s.modemOut ∧ (takeSegment valid segment s).shares = s.shares ∧
    (takeSegment valid segment s).pending = s.pending := by
  simp only [takeSegment]
  split
  · exact ⟨foldl_keeps (fun t => t.mdp) _ (by intro t b; simp) _ _,
    foldl_keeps (fun t => t.qg) _ (by intro t b; simp) _ _,
    foldl_keeps (fun t => t.pst.bankA) _ (by intro t b; simp) _ _,
    foldl_keeps (fun t => t.pst.bankB) _ (by intro t b; simp) _ _,
    foldl_keeps (fun t => t.pst.live) _ (by intro t b; simp) _ _,
    foldl_keeps (fun t => t.pst.digestA) _ (by intro t b; simp) _ _,
    foldl_keeps (fun t => t.pst.digestB) _ (by intro t b; simp) _ _,
    foldl_keeps (fun t => t.pst.masks) _ (by intro t b; simp) _ _,
    foldl_keeps (fun t => t.ohl.beacon) _ (by intro t b; simp) _ _,
    foldl_keeps (fun t => t.cal) _ (by intro t b; simp) _ _,
    foldl_keeps (fun t => t.mgp.cursor) _ (by intro t b; simp) _ _,
    foldl_keeps (fun t => t.mgp.enables) _ (by intro t b; simp) _ _,
    foldl_keeps (fun t => t.mgp.laneParams) _ (by intro t b; simp) _ _,
    foldl_keeps (fun t => t.mgp.params) _ (by intro t b; simp) _ _,
    foldl_keeps (fun t => t.mgp.response) _ (by intro t b; simp) _ _,
    foldl_keeps (fun t => t.prc.ring) _ (by intro t b; simp) _ _,
    foldl_keeps (fun t => t.prc.second) _ (by intro t b; simp) _ _,
    foldl_keeps (fun t => t.prc.histogram) _ (by intro t b; simp) _ _,
    foldl_keeps (fun t => t.modemOut) _ (by intro t b; simp) _ _,
    foldl_keeps (fun t => t.shares) _ (by intro t b; simp) _ _,
    foldl_keeps (fun t => t.pending) _ (by intro t b; simp) _ _⟩
  · simp

@[simp] theorem restartTransmitter_frame (s : State) :
    (restartTransmitter s).mdp = s.mdp ∧ (restartTransmitter s).qg = s.qg ∧ (restartTransmitter s).pst = s.pst ∧
    (restartTransmitter s).se = s.se ∧ (restartTransmitter s).ohl.deframer = s.ohl.deframer ∧
    (restartTransmitter s).ohl.lock = s.ohl.lock ∧ (restartTransmitter s).ohl.silence = s.ohl.silence ∧
    (restartTransmitter s).ohl.beacon = s.ohl.beacon ∧ (restartTransmitter s).ohl.far = s.ohl.far ∧
    (restartTransmitter s).sws = s.sws ∧ (restartTransmitter s).cal = s.cal ∧
    (restartTransmitter s).trp = s.trp ∧ (restartTransmitter s).mgp = s.mgp ∧
    (restartTransmitter s).prc = s.prc ∧ (restartTransmitter s).modemOut = s.modemOut ∧
    (restartTransmitter s).shares = s.shares ∧ (restartTransmitter s).pending = s.pending := by
  simp only [restartTransmitter]; (repeat' split) <;> simp

@[simp] theorem emptyLaneSlots_frame (l : Lane) (s : State) :
    (emptyLaneSlots l s).mdp = s.mdp ∧ (emptyLaneSlots l s).qg = s.qg ∧ (emptyLaneSlots l s).pst = s.pst ∧
    (emptyLaneSlots l s).se = s.se ∧ (emptyLaneSlots l s).ohl.deframer = s.ohl.deframer ∧
    (emptyLaneSlots l s).ohl.lock = s.ohl.lock ∧ (emptyLaneSlots l s).ohl.silence = s.ohl.silence ∧
    (emptyLaneSlots l s).ohl.beacon = s.ohl.beacon ∧ (emptyLaneSlots l s).ohl.far = s.ohl.far ∧
    (emptyLaneSlots l s).sws = s.sws ∧ (emptyLaneSlots l s).cal = s.cal ∧ (emptyLaneSlots l s).trp = s.trp ∧
    (emptyLaneSlots l s).mgp = s.mgp ∧ (emptyLaneSlots l s).prc = s.prc ∧
    (emptyLaneSlots l s).modemOut = s.modemOut ∧ (emptyLaneSlots l s).shares = s.shares ∧
    (emptyLaneSlots l s).pending = s.pending := by
  simp [emptyLaneSlots]

@[simp] theorem tickSilence_frame (s : State) :
    (tickSilence s).mdp = s.mdp ∧ (tickSilence s).qg = s.qg ∧ (tickSilence s).pst = s.pst ∧
    (tickSilence s).se.flip = s.se.flip ∧ (tickSilence s).ohl.deframer = s.ohl.deframer ∧
    (tickSilence s).ohl.lock = s.ohl.lock ∧ (tickSilence s).ohl.beacon = s.ohl.beacon ∧
    (tickSilence s).ohl.tx = s.ohl.tx ∧ (tickSilence s).ohl.far = s.ohl.far ∧ (tickSilence s).cal = s.cal ∧
    (tickSilence s).mgp.cursor = s.mgp.cursor ∧ (tickSilence s).mgp.enables = s.mgp.enables ∧
    (tickSilence s).mgp.laneParams = s.mgp.laneParams ∧ (tickSilence s).mgp.params = s.mgp.params ∧
    (tickSilence s).mgp.response = s.mgp.response ∧ (tickSilence s).prc.counters = s.prc.counters ∧
    (tickSilence s).prc.ring = s.prc.ring ∧ (tickSilence s).prc.second = s.prc.second ∧
    (tickSilence s).prc.histogram = s.prc.histogram ∧ (tickSilence s).modemOut = s.modemOut ∧
    (tickSilence s).shares = s.shares ∧ (tickSilence s).pending = s.pending := by
  simp only [tickSilence]; (repeat' split) <;> simp

@[simp] theorem tickBeacon_frame (s : State) :
    (tickBeacon s).mdp = s.mdp ∧ (tickBeacon s).qg = s.qg ∧ (tickBeacon s).pst = s.pst ∧
    (tickBeacon s).se = s.se ∧ (tickBeacon s).ohl.deframer = s.ohl.deframer ∧
    (tickBeacon s).ohl.lock = s.ohl.lock ∧ (tickBeacon s).ohl.silence = s.ohl.silence ∧
    (tickBeacon s).ohl.far = s.ohl.far ∧ (tickBeacon s).sws = s.sws ∧ (tickBeacon s).cal = s.cal ∧
    (tickBeacon s).trp = s.trp ∧ (tickBeacon s).mgp = s.mgp ∧ (tickBeacon s).prc = s.prc ∧
    (tickBeacon s).modemOut = s.modemOut ∧ (tickBeacon s).shares = s.shares ∧ (tickBeacon s).pending = s.pending := by
  simp only [tickBeacon]; (repeat' split) <;> simp

end Sys2Proof.Machine
end

