-- ==== Sys2Proof/Laws/StartEvent.lean ====
section
/-! SUPPORT. What the start event and its parts leave alone. -/

namespace Sys2Proof.Machine

@[simp] theorem setSfn_sfn (n : Sfn) (s : State) : (setSfn n s).mdp.sfn = n := rfl

theorem addShare_shares (x : Share) (s : State) :
    (addShare x s).shares = if hasShare s x then s.shares else x :: s.shares := by
  unfold addShare; split <;> rfl

@[simp] theorem hasShare_addShare_same (x : Share) (s : State) : hasShare (addShare x s) x = true := by
  unfold hasShare; rw [addShare_shares]; split
  · assumption
  · simp

/-- The response timer of an ASK handed over ahead of a start event keeps its whole time: the event finds its share
taken (R98). -/
theorem startAskTimer_shared (l : Lane) (before s : State) (h : (s.inCtx l).ask.isSome)
    (hn : (s.inCtx l).ask ≠ (before.inCtx l).ask) : hasShare (startAskTimer l before s) (.response l) = true := by
  simp [startAskTimer, h, hn]

@[simp] theorem setSfn_frame (n : Sfn) (s : State) :
    (setSfn n s).mdp.history = s.mdp.history ∧ (setSfn n s).mdp.taken = s.mdp.taken ∧
    (setSfn n s).mdp.enabled = s.mdp.enabled ∧ (setSfn n s).qg = s.qg ∧ (setSfn n s).pst = s.pst ∧
    (setSfn n s).se = s.se ∧ (setSfn n s).ohl = s.ohl ∧ (setSfn n s).sws = s.sws ∧ (setSfn n s).cal = s.cal ∧
    (setSfn n s).trp = s.trp ∧ (setSfn n s).mgp = s.mgp ∧ (setSfn n s).prc = s.prc ∧
    (setSfn n s).modemOut = s.modemOut ∧ (setSfn n s).shares = s.shares ∧ (setSfn n s).pending = s.pending := by
  constructorm* _ ∧ _ <;> rfl

@[simp] theorem addShare_frame (x : Share) (s : State) :
    (addShare x s).mdp = s.mdp ∧ (addShare x s).qg = s.qg ∧ (addShare x s).pst = s.pst ∧
    (addShare x s).se = s.se ∧ (addShare x s).ohl = s.ohl ∧ (addShare x s).sws = s.sws ∧
    (addShare x s).cal = s.cal ∧ (addShare x s).trp = s.trp ∧ (addShare x s).mgp = s.mgp ∧
    (addShare x s).prc = s.prc ∧ (addShare x s).modemOut = s.modemOut ∧ (addShare x s).pending = s.pending := by
  simp only [addShare]; (repeat' split) <;> simp

@[simp] theorem startAskTimer_frame (l : Lane) (before : State) (s : State) :
    (startAskTimer l before s).mdp = s.mdp ∧ (startAskTimer l before s).qg = s.qg ∧
    (startAskTimer l before s).pst = s.pst ∧ (startAskTimer l before s).se = s.se ∧
    (startAskTimer l before s).ohl = s.ohl ∧ (startAskTimer l before s).sws = s.sws ∧
    (startAskTimer l before s).cal = s.cal ∧ (startAskTimer l before s).trp = s.trp ∧
    (startAskTimer l before s).mgp = s.mgp ∧ (startAskTimer l before s).prc = s.prc ∧
    (startAskTimer l before s).modemOut = s.modemOut ∧ (startAskTimer l before s).pending = s.pending := by
  simp only [startAskTimer]; (repeat' split) <;> simp

/-- A part ahead of the ask timers does what it does, and at most takes a response share. -/
@[simp] theorem aheadOfAsks_frame (f : State → State) (s : State) :
    (aheadOfAsks f s).mdp = (f s).mdp ∧ (aheadOfAsks f s).qg = (f s).qg ∧ (aheadOfAsks f s).pst = (f s).pst ∧
    (aheadOfAsks f s).se = (f s).se ∧ (aheadOfAsks f s).ohl = (f s).ohl ∧ (aheadOfAsks f s).sws = (f s).sws ∧
    (aheadOfAsks f s).cal = (f s).cal ∧ (aheadOfAsks f s).trp = (f s).trp ∧ (aheadOfAsks f s).mgp = (f s).mgp ∧
    (aheadOfAsks f s).prc = (f s).prc ∧ (aheadOfAsks f s).modemOut = (f s).modemOut ∧
    (aheadOfAsks f s).pending = (f s).pending := by
  simp [aheadOfAsks]

theorem startAskTimer_shares (l : Lane) (before s : State) (x : Share) :
    x ∈ (startAskTimer l before s).shares ↔
      x ∈ s.shares ∨ (x = .response l ∧ (s.inCtx l).ask.isSome = true ∧ (s.inCtx l).ask ≠ (before.inCtx l).ask) := by
  unfold startAskTimer
  split
  · next h =>
    rw [addShare_shares]
    split
    · next hs => simp only [hasShare, List.contains_iff_mem] at hs; constructor
                 · exact Or.inl
                 · rintro (h' | ⟨rfl, -⟩)
                   · exact h'
                   · exact hs
    · simp [h, or_comm]
  · next h => simp [h]

/-- The response shares that a part takes are those of the lanes whose ASK it handed over (R98). -/
theorem aheadOfAsks_shares (f : State → State) (s : State) (x : Share) :
    x ∈ (aheadOfAsks f s).shares ↔
      x ∈ (f s).shares ∨ ∃ l, x = .response l ∧ ((f s).inCtx l).ask.isSome = true ∧
        ((f s).inCtx l).ask ≠ (s.inCtx l).ask := by
  have h : ∀ l, (startAskTimer .zero s (f s)).inCtx l = (f s).inCtx l := by simp [State.inCtx]
  simp only [aheadOfAsks, startAskTimer_shares, h]
  constructor
  · rintro ((h | ⟨rfl, h1, h2⟩) | ⟨rfl, h1, h2⟩)
    · exact Or.inl h
    · exact Or.inr ⟨_, rfl, h1, h2⟩
    · exact Or.inr ⟨_, rfl, h1, h2⟩
  · rintro (h | ⟨l, rfl, h1, h2⟩)
    · exact Or.inl (Or.inl h)
    · cases l
      · exact Or.inl (Or.inr ⟨rfl, h1, h2⟩)
      · exact Or.inr ⟨rfl, h1, h2⟩

@[simp] theorem handReport_frame (r : QualityReport) (w : PlanWord) (s : State) :
    (handReport r w s).mdp = s.mdp ∧ (handReport r w s).pst = s.pst ∧
    (handReport r w s).se.outCtx = s.se.outCtx ∧ (handReport r w s).se.peerSilent = s.se.peerSilent ∧
    (handReport r w s).se.flip = s.se.flip ∧ (handReport r w s).ohl.deframer = s.ohl.deframer ∧
    (handReport r w s).ohl.lock = s.ohl.lock ∧ (handReport r w s).ohl.silence = s.ohl.silence ∧
    (handReport r w s).ohl.beacon = s.ohl.beacon ∧ (handReport r w s).ohl.far = s.ohl.far ∧
    (handReport r w s).mgp.cursor = s.mgp.cursor ∧ (handReport r w s).mgp.enables = s.mgp.enables ∧
    (handReport r w s).mgp.laneParams = s.mgp.laneParams ∧ (handReport r w s).mgp.params = s.mgp.params ∧
    (handReport r w s).mgp.response = s.mgp.response ∧ (handReport r w s).prc.ring = s.prc.ring ∧
    (handReport r w s).prc.second = s.prc.second ∧ (handReport r w s).prc.histogram = s.prc.histogram ∧
    (handReport r w s).modemOut = s.modemOut ∧ (handReport r w s).shares = s.shares ∧
    (handReport r w s).pending = s.pending := by
  simp [handReport]

@[simp] theorem synthesise_frame (l : Lane) (b : Branch) (s : State) :
    (synthesise l b s).mdp = s.mdp ∧ (synthesise l b s).pst = s.pst ∧
    (synthesise l b s).se.outCtx = s.se.outCtx ∧ (synthesise l b s).se.peerSilent = s.se.peerSilent ∧
    (synthesise l b s).se.flip = s.se.flip ∧ (synthesise l b s).ohl.deframer = s.ohl.deframer ∧
    (synthesise l b s).ohl.lock = s.ohl.lock ∧ (synthesise l b s).ohl.silence = s.ohl.silence ∧
    (synthesise l b s).ohl.beacon = s.ohl.beacon ∧ (synthesise l b s).ohl.far = s.ohl.far ∧
    (synthesise l b s).mgp.cursor = s.mgp.cursor ∧ (synthesise l b s).mgp.enables = s.mgp.enables ∧
    (synthesise l b s).mgp.laneParams = s.mgp.laneParams ∧ (synthesise l b s).mgp.params = s.mgp.params ∧
    (synthesise l b s).mgp.response = s.mgp.response ∧ (synthesise l b s).prc.ring = s.prc.ring ∧
    (synthesise l b s).prc.second = s.prc.second ∧ (synthesise l b s).prc.histogram = s.prc.histogram ∧
    (synthesise l b s).modemOut = s.modemOut ∧ (synthesise l b s).shares = s.shares ∧
    (synthesise l b s).pending = s.pending := by
  simp only [synthesise]; (repeat' split) <;> simp

@[simp] theorem synthesiseAll_frame (s : State) :
    (synthesiseAll s).mdp = s.mdp ∧ (synthesiseAll s).pst = s.pst ∧ (synthesiseAll s).se.outCtx = s.se.outCtx ∧
    (synthesiseAll s).se.peerSilent = s.se.peerSilent ∧ (synthesiseAll s).se.flip = s.se.flip ∧
    (synthesiseAll s).ohl.deframer = s.ohl.deframer ∧ (synthesiseAll s).ohl.lock = s.ohl.lock ∧
    (synthesiseAll s).ohl.silence = s.ohl.silence ∧ (synthesiseAll s).ohl.beacon = s.ohl.beacon ∧
    (synthesiseAll s).ohl.far = s.ohl.far ∧ (synthesiseAll s).mgp.cursor = s.mgp.cursor ∧
    (synthesiseAll s).mgp.enables = s.mgp.enables ∧ (synthesiseAll s).mgp.laneParams = s.mgp.laneParams ∧
    (synthesiseAll s).mgp.params = s.mgp.params ∧ (synthesiseAll s).mgp.response = s.mgp.response ∧
    (synthesiseAll s).prc.ring = s.prc.ring ∧ (synthesiseAll s).prc.second = s.prc.second ∧
    (synthesiseAll s).prc.histogram = s.prc.histogram ∧ (synthesiseAll s).modemOut = s.modemOut ∧
    (synthesiseAll s).shares = s.shares ∧ (synthesiseAll s).pending = s.pending := by
  simp [synthesiseAll]

@[simp] theorem emitPlan_frame (s : State) :
    (emitPlan s).mdp.sfn = s.mdp.sfn ∧ (emitPlan s).mdp.enabled = s.mdp.enabled ∧ (emitPlan s).qg = s.qg ∧
    (emitPlan s).pst = s.pst ∧ (emitPlan s).se = s.se ∧ (emitPlan s).ohl = s.ohl ∧ (emitPlan s).cal = s.cal ∧
    (emitPlan s).trp = s.trp ∧ (emitPlan s).mgp = s.mgp ∧ (emitPlan s).prc = s.prc ∧
    (emitPlan s).shares = s.shares ∧ (emitPlan s).pending = s.pending := by
  simp [emitPlan]

@[simp] theorem emitSegment_frame (s : State) :
    (emitSegment s).mdp = s.mdp ∧ (emitSegment s).qg = s.qg ∧ (emitSegment s).pst = s.pst ∧
    (emitSegment s).se = s.se ∧ (emitSegment s).ohl.deframer = s.ohl.deframer ∧
    (emitSegment s).ohl.lock = s.ohl.lock ∧ (emitSegment s).ohl.silence = s.ohl.silence ∧
    (emitSegment s).ohl.beacon = s.ohl.beacon ∧ (emitSegment s).ohl.far = s.ohl.far ∧
    (emitSegment s).sws = s.sws ∧ (emitSegment s).cal = s.cal ∧ (emitSegment s).trp = s.trp ∧
    (emitSegment s).mgp = s.mgp ∧ (emitSegment s).prc = s.prc ∧ (emitSegment s).shares = s.shares ∧
    (emitSegment s).pending = s.pending := by
  simp [emitSegment]

@[simp] theorem tickAsks_frame (s : State) :
    (tickAsks s).mdp = s.mdp ∧ (tickAsks s).qg = s.qg ∧ (tickAsks s).pst = s.pst ∧
    (tickAsks s).se.outCtx = s.se.outCtx ∧ (tickAsks s).se.peerSilent = s.se.peerSilent ∧
    (tickAsks s).se.flip = s.se.flip ∧ (tickAsks s).ohl.deframer = s.ohl.deframer ∧
    (tickAsks s).ohl.lock = s.ohl.lock ∧ (tickAsks s).ohl.silence = s.ohl.silence ∧
    (tickAsks s).ohl.beacon = s.ohl.beacon ∧ (tickAsks s).ohl.far = s.ohl.far ∧ (tickAsks s).sws = s.sws ∧
    (tickAsks s).cal = s.cal ∧ (tickAsks s).trp = s.trp ∧ (tickAsks s).mgp.cursor = s.mgp.cursor ∧
    (tickAsks s).mgp.enables = s.mgp.enables ∧ (tickAsks s).mgp.laneParams = s.mgp.laneParams ∧
    (tickAsks s).mgp.params = s.mgp.params ∧ (tickAsks s).mgp.response = s.mgp.response ∧
    (tickAsks s).prc.ring = s.prc.ring ∧ (tickAsks s).prc.building = s.prc.building ∧
    (tickAsks s).prc.second = s.prc.second ∧ (tickAsks s).prc.histogram = s.prc.histogram ∧
    (tickAsks s).modemOut = s.modemOut ∧ (tickAsks s).shares = s.shares ∧ (tickAsks s).pending = s.pending := by
  simp only [tickAsks, unlessShared]; (repeat' split) <;> simp

@[simp] theorem tickLink_frame (s : State) :
    (tickLink s).mdp = s.mdp ∧ (tickLink s).qg = s.qg ∧ (tickLink s).pst.bankA = s.pst.bankA ∧
    (tickLink s).pst.bankB = s.pst.bankB ∧ (tickLink s).pst.live = s.pst.live ∧
    (tickLink s).pst.digestA = s.pst.digestA ∧ (tickLink s).pst.digestB = s.pst.digestB ∧
    (tickLink s).pst.masks = s.pst.masks ∧ (tickLink s).ohl.deframer = s.ohl.deframer ∧
    (tickLink s).ohl.lock = s.ohl.lock ∧ (tickLink s).ohl.far = s.ohl.far ∧ (tickLink s).cal = s.cal ∧
    (tickLink s).mgp.cursor = s.mgp.cursor ∧ (tickLink s).mgp.enables = s.mgp.enables ∧
    (tickLink s).mgp.laneParams = s.mgp.laneParams ∧ (tickLink s).mgp.params = s.mgp.params ∧
    (tickLink s).mgp.response = s.mgp.response ∧ (tickLink s).prc.counters = s.prc.counters ∧
    (tickLink s).prc.ring = s.prc.ring ∧ (tickLink s).prc.second = s.prc.second ∧
    (tickLink s).prc.histogram = s.prc.histogram ∧ (tickLink s).modemOut = s.modemOut ∧
    (tickLink s).shares = s.shares ∧ (tickLink s).pending = s.pending := by
  simp only [tickLink, unlessShared]; (repeat' split) <;> simp

@[simp] theorem recordSecond_frame (s : State) :
    (recordSecond s).mdp = s.mdp ∧ (recordSecond s).qg = s.qg ∧ (recordSecond s).pst = s.pst ∧
    (recordSecond s).se = s.se ∧ (recordSecond s).ohl = s.ohl ∧ (recordSecond s).sws = s.sws ∧
    (recordSecond s).cal = s.cal ∧ (recordSecond s).trp = s.trp ∧ (recordSecond s).mgp.cursor = s.mgp.cursor ∧
    (recordSecond s).mgp.enables = s.mgp.enables ∧ (recordSecond s).mgp.laneParams = s.mgp.laneParams ∧
    (recordSecond s).mgp.params = s.mgp.params ∧ (recordSecond s).mgp.response = s.mgp.response ∧
    (recordSecond s).prc.counters = s.prc.counters ∧ (recordSecond s).prc.histogram = s.prc.histogram ∧
    (recordSecond s).modemOut = s.modemOut ∧ (recordSecond s).shares = s.shares ∧
    (recordSecond s).pending = s.pending := by
  simp [recordSecond]

@[simp] theorem recorderWork_frame (s : State) :
    (recorderWork s).mdp = s.mdp ∧ (recorderWork s).qg = s.qg ∧ (recorderWork s).pst = s.pst ∧
    (recorderWork s).se = s.se ∧ (recorderWork s).ohl = s.ohl ∧ (recorderWork s).sws = s.sws ∧
    (recorderWork s).cal = s.cal ∧ (recorderWork s).trp = s.trp ∧ (recorderWork s).mgp.cursor = s.mgp.cursor ∧
    (recorderWork s).mgp.enables = s.mgp.enables ∧ (recorderWork s).mgp.laneParams = s.mgp.laneParams ∧
    (recorderWork s).mgp.params = s.mgp.params ∧ (recorderWork s).mgp.response = s.mgp.response ∧
    (recorderWork s).prc.counters = s.prc.counters ∧ (recorderWork s).modemOut = s.modemOut ∧
    (recorderWork s).shares = s.shares ∧ (recorderWork s).pending = s.pending := by
  simp only [recorderWork, unlessShared]; (repeat' split) <;> simp

@[simp] theorem untilDraw_frame (s : State) :
    (untilDraw s).mdp.enabled = s.mdp.enabled ∧ (untilDraw s).pst.bankA = s.pst.bankA ∧
    (untilDraw s).pst.bankB = s.pst.bankB ∧ (untilDraw s).pst.digestA = s.pst.digestA ∧
    (untilDraw s).pst.digestB = s.pst.digestB ∧ (untilDraw s).pst.masks = s.pst.masks ∧
    (untilDraw s).se.peerSilent = s.se.peerSilent ∧ (untilDraw s).ohl.deframer = s.ohl.deframer ∧
    (untilDraw s).ohl.lock = s.ohl.lock ∧ (untilDraw s).ohl.silence = s.ohl.silence ∧
    (untilDraw s).ohl.beacon = s.ohl.beacon ∧ (untilDraw s).ohl.far = s.ohl.far ∧
    (untilDraw s).mgp.cursor = s.mgp.cursor ∧ (untilDraw s).mgp.enables = s.mgp.enables ∧
    (untilDraw s).mgp.laneParams = s.mgp.laneParams ∧ (untilDraw s).mgp.params = s.mgp.params ∧
    (untilDraw s).mgp.response = s.mgp.response ∧ (untilDraw s).prc.ring = s.prc.ring ∧
    (untilDraw s).prc.second = s.prc.second ∧ (untilDraw s).prc.histogram = s.prc.histogram ∧
    (untilDraw s).pending = s.pending := by
  simp [untilDraw]

@[simp] theorem startEvent_frame (s : State) :
    (startEvent s).mdp.enabled = s.mdp.enabled ∧ (startEvent s).pst.bankA = s.pst.bankA ∧
    (startEvent s).pst.bankB = s.pst.bankB ∧ (startEvent s).pst.digestA = s.pst.digestA ∧
    (startEvent s).pst.digestB = s.pst.digestB ∧ (startEvent s).pst.masks = s.pst.masks ∧
    (startEvent s).ohl.deframer = s.ohl.deframer ∧ (startEvent s).ohl.lock = s.ohl.lock ∧
    (startEvent s).ohl.far = s.ohl.far ∧ (startEvent s).mgp.cursor = s.mgp.cursor ∧
    (startEvent s).mgp.enables = s.mgp.enables ∧ (startEvent s).mgp.laneParams = s.mgp.laneParams ∧
    (startEvent s).mgp.params = s.mgp.params ∧ (startEvent s).mgp.response = s.mgp.response ∧
    (startEvent s).pending = s.pending := by
  simp [startEvent]

@[simp] theorem recordSecondAhead_frame (s : State) :
    (recordSecondAhead s).mdp = s.mdp ∧ (recordSecondAhead s).qg = s.qg ∧ (recordSecondAhead s).pst = s.pst ∧
    (recordSecondAhead s).se = s.se ∧ (recordSecondAhead s).ohl = s.ohl ∧ (recordSecondAhead s).sws = s.sws ∧
    (recordSecondAhead s).cal = s.cal ∧ (recordSecondAhead s).trp = s.trp ∧
    (recordSecondAhead s).mgp.cursor = s.mgp.cursor ∧ (recordSecondAhead s).mgp.enables = s.mgp.enables ∧
    (recordSecondAhead s).mgp.laneParams = s.mgp.laneParams ∧ (recordSecondAhead s).mgp.params = s.mgp.params ∧
    (recordSecondAhead s).mgp.response = s.mgp.response ∧ (recordSecondAhead s).prc.counters = s.prc.counters ∧
    (recordSecondAhead s).prc.histogram = s.prc.histogram ∧ (recordSecondAhead s).modemOut = s.modemOut ∧
    (recordSecondAhead s).shares = s.shares ∧ (recordSecondAhead s).pending = s.pending := by
  simp [recordSecondAhead]

end Sys2Proof.Machine
end

