-- ==== Sys2Proof/Laws/Commands.lean ====
section
/-! SUPPORT. What the operations of the management commands write, and what they leave alone. -/

namespace Sys2Proof.Machine

@[simp] theorem setCursorTo_cursor (c : Cursor) (s : State) : (setCursorTo c s).mgp.cursor = c := rfl

@[simp] theorem setLaneParams_laneParams (l : Lane) (p : LaneParams) (s : State) :
    (setLaneParams l p s).mgp.laneParams = s.mgp.laneParams.set l p := rfl

@[simp] theorem setParams_params (p : CommonParams) (s : State) : (setParams p s).mgp.params = p := rfl

@[simp] theorem setEnables_enables (x : BitVec 12) (s : State) : (setEnables x s).mgp.enables = x := rfl

@[simp] theorem setEnabled_enabled (l : Lane) (on : Bool) (s : State) :
    (setEnabled l on s).mdp.enabled = s.mdp.enabled.set l on := rfl

@[simp] theorem markTaken_frame (r : QualityReport) (age : ReportAge) (s : State) :
    (markTaken r age s).mdp.sfn = s.mdp.sfn ∧ (markTaken r age s).mdp.history = s.mdp.history ∧
    (markTaken r age s).mdp.enabled = s.mdp.enabled ∧ (markTaken r age s).qg = s.qg ∧
    (markTaken r age s).pst = s.pst ∧ (markTaken r age s).se = s.se ∧ (markTaken r age s).ohl = s.ohl ∧
    (markTaken r age s).sws = s.sws ∧ (markTaken r age s).cal = s.cal ∧ (markTaken r age s).trp = s.trp ∧
    (markTaken r age s).mgp = s.mgp ∧ (markTaken r age s).prc = s.prc ∧
    (markTaken r age s).modemOut = s.modemOut ∧ (markTaken r age s).shares = s.shares ∧
    (markTaken r age s).pending = s.pending := by
  simp [markTaken]

@[simp] theorem setCursorTo_frame (c : Cursor) (s : State) :
    (setCursorTo c s).mdp = s.mdp ∧ (setCursorTo c s).qg = s.qg ∧ (setCursorTo c s).pst = s.pst ∧
    (setCursorTo c s).se = s.se ∧ (setCursorTo c s).ohl = s.ohl ∧ (setCursorTo c s).sws = s.sws ∧
    (setCursorTo c s).cal = s.cal ∧ (setCursorTo c s).trp = s.trp ∧ (setCursorTo c s).mgp.flags = s.mgp.flags ∧
    (setCursorTo c s).mgp.enables = s.mgp.enables ∧ (setCursorTo c s).mgp.laneParams = s.mgp.laneParams ∧
    (setCursorTo c s).mgp.params = s.mgp.params ∧ (setCursorTo c s).mgp.response = s.mgp.response ∧
    (setCursorTo c s).prc = s.prc ∧ (setCursorTo c s).modemOut = s.modemOut ∧
    (setCursorTo c s).shares = s.shares ∧ (setCursorTo c s).pending = s.pending := by
  constructorm* _ ∧ _ <;> rfl

@[simp] theorem advanceCursor_frame (s : State) :
    (advanceCursor s).mdp = s.mdp ∧ (advanceCursor s).qg = s.qg ∧ (advanceCursor s).pst = s.pst ∧
    (advanceCursor s).se = s.se ∧ (advanceCursor s).ohl = s.ohl ∧ (advanceCursor s).sws = s.sws ∧
    (advanceCursor s).cal = s.cal ∧ (advanceCursor s).trp = s.trp ∧ (advanceCursor s).mgp.flags = s.mgp.flags ∧
    (advanceCursor s).mgp.enables = s.mgp.enables ∧ (advanceCursor s).mgp.laneParams = s.mgp.laneParams ∧
    (advanceCursor s).mgp.params = s.mgp.params ∧ (advanceCursor s).mgp.response = s.mgp.response ∧
    (advanceCursor s).prc = s.prc ∧ (advanceCursor s).modemOut = s.modemOut ∧
    (advanceCursor s).shares = s.shares ∧ (advanceCursor s).pending = s.pending := by
  simp [advanceCursor]

@[simp] theorem setStaged_frame (b : Bank) (digest : Digest) (s : State) :
    (setStaged b digest s).mdp = s.mdp ∧ (setStaged b digest s).qg = s.qg ∧
    (setStaged b digest s).pst.live = s.pst.live ∧ (setStaged b digest s).pst.masks = s.pst.masks ∧
    (setStaged b digest s).se = s.se ∧ (setStaged b digest s).ohl = s.ohl ∧ (setStaged b digest s).sws = s.sws ∧
    (setStaged b digest s).cal = s.cal ∧ (setStaged b digest s).trp = s.trp ∧
    (setStaged b digest s).mgp = s.mgp ∧ (setStaged b digest s).prc = s.prc ∧
    (setStaged b digest s).modemOut = s.modemOut ∧ (setStaged b digest s).shares = s.shares ∧
    (setStaged b digest s).pending = s.pending := by
  simp only [setStaged, Pst.setBank]; (repeat' split) <;> simp

@[simp] theorem setMask_frame (l : Lane) (d : Dir) (m : ProfileSet) (s : State) :
    (setMask l d m s).mdp = s.mdp ∧ (setMask l d m s).qg = s.qg ∧ (setMask l d m s).pst.bankA = s.pst.bankA ∧
    (setMask l d m s).pst.bankB = s.pst.bankB ∧ (setMask l d m s).pst.live = s.pst.live ∧
    (setMask l d m s).pst.status = s.pst.status ∧ (setMask l d m s).pst.digestA = s.pst.digestA ∧
    (setMask l d m s).pst.digestB = s.pst.digestB ∧ (setMask l d m s).se = s.se ∧
    (setMask l d m s).ohl = s.ohl ∧ (setMask l d m s).sws = s.sws ∧ (setMask l d m s).cal = s.cal ∧
    (setMask l d m s).trp = s.trp ∧ (setMask l d m s).mgp = s.mgp ∧ (setMask l d m s).prc = s.prc ∧
    (setMask l d m s).modemOut = s.modemOut ∧ (setMask l d m s).shares = s.shares ∧
    (setMask l d m s).pending = s.pending := by
  constructorm* _ ∧ _ <;> rfl

@[simp] theorem changeMask_frame (l : Lane) (d : Dir) (m : ProfileSet) (s : State) :
    (changeMask l d m s).mdp = s.mdp ∧ (changeMask l d m s).qg = s.qg ∧
    (changeMask l d m s).pst.bankA = s.pst.bankA ∧ (changeMask l d m s).pst.bankB = s.pst.bankB ∧
    (changeMask l d m s).pst.live = s.pst.live ∧ (changeMask l d m s).pst.status = s.pst.status ∧
    (changeMask l d m s).pst.digestA = s.pst.digestA ∧ (changeMask l d m s).pst.digestB = s.pst.digestB ∧
    (changeMask l d m s).se.peerSilent = s.se.peerSilent ∧ (changeMask l d m s).se.flip = s.se.flip ∧
    (changeMask l d m s).ohl.deframer = s.ohl.deframer ∧ (changeMask l d m s).ohl.lock = s.ohl.lock ∧
    (changeMask l d m s).ohl.silence = s.ohl.silence ∧ (changeMask l d m s).ohl.beacon = s.ohl.beacon ∧
    (changeMask l d m s).ohl.far = s.ohl.far ∧ (changeMask l d m s).cal = s.cal ∧
    (changeMask l d m s).mgp.cursor = s.mgp.cursor ∧ (changeMask l d m s).mgp.enables = s.mgp.enables ∧
    (changeMask l d m s).mgp.laneParams = s.mgp.laneParams ∧ (changeMask l d m s).mgp.params = s.mgp.params ∧
    (changeMask l d m s).mgp.response = s.mgp.response ∧ (changeMask l d m s).prc.ring = s.prc.ring ∧
    (changeMask l d m s).prc.building = s.prc.building ∧ (changeMask l d m s).prc.second = s.prc.second ∧
    (changeMask l d m s).prc.histogram = s.prc.histogram ∧ (changeMask l d m s).modemOut = s.modemOut ∧
    (changeMask l d m s).shares = s.shares ∧ (changeMask l d m s).pending = s.pending := by
  simp only [changeMask]; (repeat' split) <;> simp

@[simp] theorem pinContext_frame (d : Dir) (l : Lane) (p : Profile) (s : State) :
    (pinContext d l p s).mdp = s.mdp ∧ (pinContext d l p s).qg = s.qg ∧ (pinContext d l p s).pst = s.pst ∧
    (pinContext d l p s).se.peerSilent = s.se.peerSilent ∧ (pinContext d l p s).se.flip = s.se.flip ∧
    (pinContext d l p s).ohl.deframer = s.ohl.deframer ∧ (pinContext d l p s).ohl.lock = s.ohl.lock ∧
    (pinContext d l p s).ohl.silence = s.ohl.silence ∧ (pinContext d l p s).ohl.beacon = s.ohl.beacon ∧
    (pinContext d l p s).ohl.far = s.ohl.far ∧ (pinContext d l p s).cal = s.cal ∧
    (pinContext d l p s).mgp.cursor = s.mgp.cursor ∧ (pinContext d l p s).mgp.enables = s.mgp.enables ∧
    (pinContext d l p s).mgp.laneParams = s.mgp.laneParams ∧ (pinContext d l p s).mgp.params = s.mgp.params ∧
    (pinContext d l p s).mgp.response = s.mgp.response ∧ (pinContext d l p s).prc.ring = s.prc.ring ∧
    (pinContext d l p s).prc.building = s.prc.building ∧ (pinContext d l p s).prc.second = s.prc.second ∧
    (pinContext d l p s).prc.histogram = s.prc.histogram ∧ (pinContext d l p s).modemOut = s.modemOut ∧
    (pinContext d l p s).shares = s.shares ∧ (pinContext d l p s).pending = s.pending := by
  simp only [pinContext]; (repeat' split) <;> simp

@[simp] theorem unpinContext_frame (d : Dir) (l : Lane) (s : State) :
    (unpinContext d l s).mdp = s.mdp ∧ (unpinContext d l s).qg = s.qg ∧ (unpinContext d l s).pst = s.pst ∧
    (unpinContext d l s).se.peerSilent = s.se.peerSilent ∧ (unpinContext d l s).se.flip = s.se.flip ∧
    (unpinContext d l s).ohl = s.ohl ∧ (unpinContext d l s).cal = s.cal ∧
    (unpinContext d l s).mgp.cursor = s.mgp.cursor ∧ (unpinContext d l s).mgp.enables = s.mgp.enables ∧
    (unpinContext d l s).mgp.laneParams = s.mgp.laneParams ∧ (unpinContext d l s).mgp.params = s.mgp.params ∧
    (unpinContext d l s).mgp.response = s.mgp.response ∧ (unpinContext d l s).prc = s.prc ∧
    (unpinContext d l s).modemOut = s.modemOut ∧ (unpinContext d l s).shares = s.shares ∧
    (unpinContext d l s).pending = s.pending := by
  simp only [unpinContext]; (repeat' split) <;> simp

@[simp] theorem freshContexts_frame (l : Lane) (s : State) :
    (freshContexts l s).mdp = s.mdp ∧ (freshContexts l s).qg = s.qg ∧ (freshContexts l s).pst = s.pst ∧
    (freshContexts l s).se.peerSilent = s.se.peerSilent ∧ (freshContexts l s).se.flip = s.se.flip ∧
    (freshContexts l s).ohl = s.ohl ∧ (freshContexts l s).sws = s.sws ∧ (freshContexts l s).cal = s.cal ∧
    (freshContexts l s).trp = s.trp ∧ (freshContexts l s).mgp = s.mgp ∧ (freshContexts l s).prc = s.prc ∧
    (freshContexts l s).modemOut = s.modemOut ∧ (freshContexts l s).shares = s.shares ∧
    (freshContexts l s).pending = s.pending := by
  simp only [freshContexts]; (repeat' split) <;> simp

@[simp] theorem setEnabled_frame (l : Lane) (on : Bool) (s : State) :
    (setEnabled l on s).mdp.sfn = s.mdp.sfn ∧ (setEnabled l on s).mdp.history = s.mdp.history ∧
    (setEnabled l on s).mdp.taken = s.mdp.taken ∧ (setEnabled l on s).qg = s.qg ∧
    (setEnabled l on s).pst = s.pst ∧ (setEnabled l on s).se = s.se ∧ (setEnabled l on s).ohl = s.ohl ∧
    (setEnabled l on s).sws = s.sws ∧ (setEnabled l on s).cal = s.cal ∧ (setEnabled l on s).trp = s.trp ∧
    (setEnabled l on s).mgp = s.mgp ∧ (setEnabled l on s).prc = s.prc ∧
    (setEnabled l on s).modemOut = s.modemOut ∧ (setEnabled l on s).shares = s.shares ∧
    (setEnabled l on s).pending = s.pending := by
  constructorm* _ ∧ _ <;> rfl

@[simp] theorem restartLane_frame (l : Lane) (s : State) :
    (restartLane l s).mdp = s.mdp ∧ (restartLane l s).pst = s.pst ∧
    (restartLane l s).se.peerSilent = s.se.peerSilent ∧ (restartLane l s).se.flip = s.se.flip ∧
    (restartLane l s).ohl.deframer = s.ohl.deframer ∧ (restartLane l s).ohl.lock = s.ohl.lock ∧
    (restartLane l s).ohl.silence = s.ohl.silence ∧ (restartLane l s).ohl.beacon = s.ohl.beacon ∧
    (restartLane l s).ohl.far = s.ohl.far ∧ (restartLane l s).mgp.cursor = s.mgp.cursor ∧
    (restartLane l s).mgp.enables = s.mgp.enables ∧ (restartLane l s).mgp.laneParams = s.mgp.laneParams ∧
    (restartLane l s).mgp.params = s.mgp.params ∧ (restartLane l s).mgp.response = s.mgp.response ∧
    (restartLane l s).prc.counters = s.prc.counters ∧ (restartLane l s).prc.ring = s.prc.ring ∧
    (restartLane l s).prc.second = s.prc.second ∧ (restartLane l s).prc.histogram = s.prc.histogram ∧
    (restartLane l s).modemOut = s.modemOut ∧ (restartLane l s).shares = s.shares ∧
    (restartLane l s).pending = s.pending := by
  simp [restartLane]

@[simp] theorem cancelOffer_frame (s : State) :
    (cancelOffer s).mdp = s.mdp ∧ (cancelOffer s).qg = s.qg ∧ (cancelOffer s).pst.bankA = s.pst.bankA ∧
    (cancelOffer s).pst.bankB = s.pst.bankB ∧ (cancelOffer s).pst.live = s.pst.live ∧
    (cancelOffer s).pst.digestA = s.pst.digestA ∧ (cancelOffer s).pst.digestB = s.pst.digestB ∧
    (cancelOffer s).pst.masks = s.pst.masks ∧ (cancelOffer s).se.inCtx = s.se.inCtx ∧
    (cancelOffer s).se.outCtx = s.se.outCtx ∧ (cancelOffer s).se.peerSilent = s.se.peerSilent ∧
    (cancelOffer s).ohl = s.ohl ∧ (cancelOffer s).sws = s.sws ∧ (cancelOffer s).cal = s.cal ∧
    (cancelOffer s).trp = s.trp ∧ (cancelOffer s).mgp.cursor = s.mgp.cursor ∧
    (cancelOffer s).mgp.enables = s.mgp.enables ∧ (cancelOffer s).mgp.laneParams = s.mgp.laneParams ∧
    (cancelOffer s).mgp.params = s.mgp.params ∧ (cancelOffer s).mgp.response = s.mgp.response ∧
    (cancelOffer s).prc = s.prc ∧ (cancelOffer s).modemOut = s.modemOut ∧ (cancelOffer s).shares = s.shares ∧
    (cancelOffer s).pending = s.pending := by
  simp only [cancelOffer]; (repeat' split) <;> simp

@[simp] theorem clearLink_frame (s : State) :
    (clearLink s).mdp = s.mdp ∧ (clearLink s).qg = s.qg ∧ (clearLink s).pst = s.pst ∧ (clearLink s).se = s.se ∧
    (clearLink s).sws = s.sws ∧ (clearLink s).cal = s.cal ∧ (clearLink s).trp = s.trp ∧
    (clearLink s).mgp.cursor = s.mgp.cursor ∧ (clearLink s).mgp.enables = s.mgp.enables ∧
    (clearLink s).mgp.laneParams = s.mgp.laneParams ∧ (clearLink s).mgp.params = s.mgp.params ∧
    (clearLink s).mgp.response = s.mgp.response ∧ (clearLink s).prc.ring = s.prc.ring ∧
    (clearLink s).prc.building = s.prc.building ∧ (clearLink s).prc.second = s.prc.second ∧
    (clearLink s).prc.histogram = s.prc.histogram ∧ (clearLink s).modemOut = s.modemOut ∧
    (clearLink s).shares = s.shares ∧ (clearLink s).pending = s.pending := by
  simp [clearLink]

@[simp] theorem clearEngine_frame (s : State) :
    (clearEngine s).mdp = s.mdp ∧ (clearEngine s).qg = s.qg ∧ (clearEngine s).pst.bankA = s.pst.bankA ∧
    (clearEngine s).pst.bankB = s.pst.bankB ∧ (clearEngine s).pst.live = s.pst.live ∧
    (clearEngine s).pst.digestA = s.pst.digestA ∧ (clearEngine s).pst.digestB = s.pst.digestB ∧
    (clearEngine s).pst.masks = s.pst.masks ∧ (clearEngine s).ohl = s.ohl ∧ (clearEngine s).cal = s.cal ∧
    (clearEngine s).trp = s.trp ∧ (clearEngine s).mgp = s.mgp ∧ (clearEngine s).prc = s.prc ∧
    (clearEngine s).modemOut = s.modemOut ∧ (clearEngine s).shares = s.shares ∧
    (clearEngine s).pending = s.pending := by
  simp [clearEngine]

@[simp] theorem clearTraffic_frame (s : State) :
    (clearTraffic s).mdp = s.mdp ∧ (clearTraffic s).qg = s.qg ∧ (clearTraffic s).pst = s.pst ∧
    (clearTraffic s).se = s.se ∧ (clearTraffic s).ohl = s.ohl ∧ (clearTraffic s).sws = s.sws ∧
    (clearTraffic s).mgp = s.mgp ∧ (clearTraffic s).prc = s.prc ∧ (clearTraffic s).modemOut = s.modemOut ∧
    (clearTraffic s).shares = s.shares ∧ (clearTraffic s).pending = s.pending := by
  simp [clearTraffic]

@[simp] theorem setLaneParams_frame (l : Lane) (p : LaneParams) (s : State) :
    (setLaneParams l p s).mdp = s.mdp ∧ (setLaneParams l p s).qg = s.qg ∧ (setLaneParams l p s).pst = s.pst ∧
    (setLaneParams l p s).se = s.se ∧ (setLaneParams l p s).ohl = s.ohl ∧ (setLaneParams l p s).sws = s.sws ∧
    (setLaneParams l p s).cal = s.cal ∧ (setLaneParams l p s).trp = s.trp ∧
    (setLaneParams l p s).mgp.cursor = s.mgp.cursor ∧ (setLaneParams l p s).mgp.flags = s.mgp.flags ∧
    (setLaneParams l p s).mgp.enables = s.mgp.enables ∧ (setLaneParams l p s).mgp.params = s.mgp.params ∧
    (setLaneParams l p s).mgp.response = s.mgp.response ∧ (setLaneParams l p s).prc = s.prc ∧
    (setLaneParams l p s).modemOut = s.modemOut ∧ (setLaneParams l p s).shares = s.shares ∧
    (setLaneParams l p s).pending = s.pending := by
  constructorm* _ ∧ _ <;> rfl

@[simp] theorem restartWindows_frame (l : Lane) (s : State) :
    (restartWindows l s).mdp = s.mdp ∧ (restartWindows l s).pst = s.pst ∧ (restartWindows l s).se = s.se ∧
    (restartWindows l s).ohl = s.ohl ∧ (restartWindows l s).sws = s.sws ∧ (restartWindows l s).cal = s.cal ∧
    (restartWindows l s).trp = s.trp ∧ (restartWindows l s).mgp = s.mgp ∧ (restartWindows l s).prc = s.prc ∧
    (restartWindows l s).modemOut = s.modemOut ∧ (restartWindows l s).shares = s.shares ∧
    (restartWindows l s).pending = s.pending := by
  simp [restartWindows]

@[simp] theorem selectFixed_frame (l : Lane) (s : State) :
    (selectFixed l s).mdp = s.mdp ∧ (selectFixed l s).pst = s.pst ∧ (selectFixed l s).se = s.se ∧
    (selectFixed l s).ohl = s.ohl ∧ (selectFixed l s).sws = s.sws ∧ (selectFixed l s).cal = s.cal ∧
    (selectFixed l s).trp = s.trp ∧ (selectFixed l s).mgp = s.mgp ∧ (selectFixed l s).prc = s.prc ∧
    (selectFixed l s).modemOut = s.modemOut ∧ (selectFixed l s).shares = s.shares ∧
    (selectFixed l s).pending = s.pending := by
  simp only [selectFixed]; (repeat' split) <;> simp

@[simp] theorem laneWriteEffect_frame (l : Lane) (i : LaneItem) (s : State) :
    (laneWriteEffect l i s).mdp = s.mdp ∧ (laneWriteEffect l i s).pst = s.pst ∧
    (laneWriteEffect l i s).se = s.se ∧ (laneWriteEffect l i s).ohl = s.ohl ∧
    (laneWriteEffect l i s).sws = s.sws ∧ (laneWriteEffect l i s).cal = s.cal ∧
    (laneWriteEffect l i s).trp = s.trp ∧ (laneWriteEffect l i s).mgp = s.mgp ∧
    (laneWriteEffect l i s).prc = s.prc ∧ (laneWriteEffect l i s).modemOut = s.modemOut ∧
    (laneWriteEffect l i s).shares = s.shares ∧ (laneWriteEffect l i s).pending = s.pending := by
  simp only [laneWriteEffect]; (repeat' split) <;> simp

@[simp] theorem setParams_frame (p : CommonParams) (s : State) :
    (setParams p s).mdp = s.mdp ∧ (setParams p s).qg = s.qg ∧ (setParams p s).pst = s.pst ∧
    (setParams p s).se = s.se ∧ (setParams p s).ohl = s.ohl ∧ (setParams p s).sws = s.sws ∧
    (setParams p s).cal = s.cal ∧ (setParams p s).trp = s.trp ∧ (setParams p s).mgp.cursor = s.mgp.cursor ∧
    (setParams p s).mgp.flags = s.mgp.flags ∧ (setParams p s).mgp.enables = s.mgp.enables ∧
    (setParams p s).mgp.laneParams = s.mgp.laneParams ∧ (setParams p s).mgp.response = s.mgp.response ∧
    (setParams p s).prc = s.prc ∧ (setParams p s).modemOut = s.modemOut ∧ (setParams p s).shares = s.shares ∧
    (setParams p s).pending = s.pending := by
  constructorm* _ ∧ _ <;> rfl

@[simp] theorem setEnables_frame (set : BitVec 12) (s : State) :
    (setEnables set s).mdp = s.mdp ∧ (setEnables set s).qg = s.qg ∧ (setEnables set s).pst = s.pst ∧
    (setEnables set s).se = s.se ∧ (setEnables set s).ohl = s.ohl ∧ (setEnables set s).sws = s.sws ∧
    (setEnables set s).cal = s.cal ∧ (setEnables set s).trp = s.trp ∧
    (setEnables set s).mgp.cursor = s.mgp.cursor ∧ (setEnables set s).mgp.flags = s.mgp.flags ∧
    (setEnables set s).mgp.laneParams = s.mgp.laneParams ∧ (setEnables set s).mgp.params = s.mgp.params ∧
    (setEnables set s).mgp.response = s.mgp.response ∧ (setEnables set s).prc = s.prc ∧
    (setEnables set s).modemOut = s.modemOut ∧ (setEnables set s).shares = s.shares ∧
    (setEnables set s).pending = s.pending := by
  constructorm* _ ∧ _ <;> rfl

@[simp] theorem writeLaneItem_frame (l : Lane) (i : LaneItem) (v : ParamValue) (s : State) :
    (writeLaneItem l i v s).mdp = s.mdp ∧ (writeLaneItem l i v s).pst = s.pst ∧
    (writeLaneItem l i v s).se = s.se ∧ (writeLaneItem l i v s).ohl = s.ohl ∧
    (writeLaneItem l i v s).sws = s.sws ∧ (writeLaneItem l i v s).cal = s.cal ∧
    (writeLaneItem l i v s).trp = s.trp ∧ (writeLaneItem l i v s).mgp.cursor = s.mgp.cursor ∧
    (writeLaneItem l i v s).mgp.flags = s.mgp.flags ∧ (writeLaneItem l i v s).mgp.enables = s.mgp.enables ∧
    (writeLaneItem l i v s).mgp.params = s.mgp.params ∧ (writeLaneItem l i v s).prc = s.prc ∧
    (writeLaneItem l i v s).modemOut = s.modemOut ∧ (writeLaneItem l i v s).shares = s.shares ∧
    (writeLaneItem l i v s).pending = s.pending := by
  simp only [writeLaneItem]; (repeat' split) <;> simp

@[simp] theorem writeCommonItem_frame (i : CommonItem) (v : ParamValue) (s : State) :
    (writeCommonItem i v s).mdp = s.mdp ∧ (writeCommonItem i v s).qg = s.qg ∧
    (writeCommonItem i v s).pst = s.pst ∧ (writeCommonItem i v s).se = s.se ∧
    (writeCommonItem i v s).ohl = s.ohl ∧ (writeCommonItem i v s).sws = s.sws ∧
    (writeCommonItem i v s).cal = s.cal ∧ (writeCommonItem i v s).trp = s.trp ∧
    (writeCommonItem i v s).mgp.cursor = s.mgp.cursor ∧ (writeCommonItem i v s).mgp.flags = s.mgp.flags ∧
    (writeCommonItem i v s).mgp.laneParams = s.mgp.laneParams ∧ (writeCommonItem i v s).prc = s.prc ∧
    (writeCommonItem i v s).modemOut = s.modemOut ∧ (writeCommonItem i v s).shares = s.shares ∧
    (writeCommonItem i v s).pending = s.pending := by
  simp only [writeCommonItem]; (repeat' split) <;> simp

@[simp] theorem clearGroup_frame (g : CounterGroup) (s : State) :
    (clearGroup g s).mdp = s.mdp ∧ (clearGroup g s).qg = s.qg ∧ (clearGroup g s).pst = s.pst ∧
    (clearGroup g s).se = s.se ∧ (clearGroup g s).ohl = s.ohl ∧ (clearGroup g s).sws = s.sws ∧
    (clearGroup g s).cal = s.cal ∧ (clearGroup g s).trp = s.trp ∧ (clearGroup g s).mgp = s.mgp ∧
    (clearGroup g s).prc.ring = s.prc.ring ∧ (clearGroup g s).prc.building = s.prc.building ∧
    (clearGroup g s).prc.second = s.prc.second ∧ (clearGroup g s).prc.histogram = s.prc.histogram ∧
    (clearGroup g s).modemOut = s.modemOut ∧ (clearGroup g s).shares = s.shares ∧
    (clearGroup g s).pending = s.pending := by
  simp [clearGroup]

end Sys2Proof.Machine
end

