-- ==== Sys2Proof/Laws/Plan.lean ====
section
/-! SUPPORT. The default banks: their digests (R63, R65), their commit checks (R60), and the slot map of the
default class table (R155). -/

namespace Sys2Proof.Machine

/-- The check register after each record of a list in turn stands in the second list. -/
def checkChain : Digest → List (List Byte) → List Digest → Bool
  | _, [], [] => true
  | r, x :: xs, y :: ys => (bytesBits x).foldl checkBit r == y && checkChain y xs ys
  | _, _, _ => false

/-- A chain of registers ends in the register of all the records' bits (R62). -/
theorem foldl_of_checkChain {r : Digest} {xs : List (List Byte)} {ys : List Digest} (h : checkChain r xs ys = true) :
    (bytesBits xs.flatten).foldl checkBit r = ys.getLastD r := by
  induction xs generalizing r ys with
  | nil => cases ys <;> simp_all [checkChain, bytesBits]
  | cons x xs ih =>
    cases ys with
    | nil => simp [checkChain] at h
    | cons y ys =>
      simp only [checkChain, Bool.and_eq_true, beq_iff_eq] at h
      have e := ih h.2
      simp only [bytesBits, List.flatten_cons, List.flatMap_append, List.foldl_append] at e h ⊢
      rw [h.1, e]; cases ys <;> simp [List.getLast?_cons]

/-- The 24 records of a bank as their bytes (R63). -/
def bankRecords (b : Bank) : List (List Byte) :=
  b.ladder.toList.map profileBytes ++ b.classes.toList.map classBytes

theorem bankDigest_of_chain {b : Bank} {ys : List Digest} (h : checkChain 0xFFFF (bankRecords b) ys = true) :
    bankDigest b = ys.getLastD 0xFFFF := by
  rw [← foldl_of_checkChain h]
  simp [bankDigest, check, bankBytes, bankRecords, List.flatMap_def]

/-- The digest that power-on reset gives bank A is the digest of its contents (R63, R65). -/
theorem bankDigest_base : bankDigest Bank.base = 0xECD5 := by
  have h : checkChain 0xFFFF (bankRecords Bank.base)
      [0x9910, 0x0484, 0xF0C8, 0xABC3, 0xBD79, 0x9AA8, 0xC705, 0x4770, 0xD702, 0xBE75, 0x3997, 0x4609, 0x6E6F,
      0xD48C, 0xEDC2, 0x8719, 0xF660, 0xF906, 0x6695, 0x78FC, 0xDF70, 0xD287, 0x37AD, 0xECD5] = true := by decide +kernel
  rw [bankDigest_of_chain h]; rfl

/-- The digest that power-on reset gives bank B is the digest of its contents (R63, R65). -/
theorem bankDigest_fill : bankDigest Bank.fill = 0x5969 := by
  have h : checkChain 0xFFFF (bankRecords Bank.fill)
      [0xCC06, 0x44C3, 0xDC8A, 0xF544, 0x8E17, 0x7AF2, 0x9959, 0x3CC9, 0x9300, 0x8E36, 0x02D0, 0x16FB, 0x4B93,
      0xD32F, 0xE21B, 0xB03D, 0x633C, 0xC50C, 0x695F, 0x47CA, 0x73B6, 0xE48E, 0xBAC7, 0x5969] = true := by decide +kernel
  rw [bankDigest_of_chain h]; rfl

/-- The default bank A passes every commit check (R60, R65). -/
theorem commitFailure_base : commitFailure Bank.base = none := by decide +kernel

/-- The default bank B fails the first commit check: its profile 0 is not valid (R60, R65). -/
theorem commitFailure_fill : commitFailure Bank.fill = some (.baseInvalid 0) := by decide +kernel

/-- The live map after power-on reset is the allocation of the default bank's 32 slots (R155, R161). -/
theorem allocate_base : allocate 32 16 Bank.base.classes = SlotMap.reset := by decide +kernel

/-- Adding a profile to a set (R68, R104). -/
theorem inSet_withProfile (x : ProfileSet) (p q : Profile) :
    inSet (withProfile x p) q = (inSet x q || decide (p = q)) := by
  simp only [inSet, withProfile, BitVec.getLsbD_or, BitVec.getLsbD_twoPow]
  congr 1
  simp [Fin.ext_iff]

/-- A bank and digest stored under a letter stand under that letter. -/
@[simp] theorem setBank_bank_self (p : Pst) (x : BankId) (b : Bank) (d : Digest) :
    (p.setBank x b d).bank x = b := by cases x <;> rfl

@[simp] theorem setBank_digest_self (p : Pst) (x : BankId) (b : Bank) (d : Digest) :
    (p.setBank x b d).digest x = d := by cases x <;> rfl

end Sys2Proof.Machine
end

