-- ==== Sys2Proof/Machine/Ports.lean ====
section
/-! DEFINITION. How the bytes of the ports reach the queue of commands (R14, R169, R176, R177, R190). -/

namespace Sys2Proof.Machine

/-- A command joins the queue behind those that wait. -/
def State.enqueue (c : Instr) (s : State) : State := { s with pending := s.pending ++ [c] }

/-! ## The serial links (R14, R169, R190) -/

/-- A record on the inbound modem link joins the queue, when it is not one that is discarded (R14). -/
def State.withModemRecord (s : State) (kind : Byte) (contents : List Byte) : State :=
  match decodeModem kind contents with
  | some c => s.enqueue c
  | none => s

/-- A record on the inbound traffic link joins the queue, when it is not one that is discarded (R169). -/
def State.withTrafficRecord (s : State) (kind : Byte) (contents : List Byte) : State :=
  match decodeTraffic kind contents with
  | some c => s.enqueue c
  | none => s

/-- Bytes on the inbound modem link: the records in them are taken one at a time, in the order they arrive, and the
second component is what has arrived of the record after them, to be put ahead of the bytes that follow (R14, R190,
log 20). -/
def State.withModemBytes (s : State) (bytes : List Byte) : State × List Byte :=
  ((recordsOf bytes).1.foldl (fun t r => t.withModemRecord r.1 r.2) s, (recordsOf bytes).2)

/-- Bytes on the inbound traffic link, likewise (R169, R190, log 20). -/
def State.withTrafficBytes (s : State) (bytes : List Byte) : State × List Byte :=
  ((recordsOf bytes).1.foldl (fun t r => t.withTrafficRecord r.1 r.2) s, (recordsOf bytes).2)

/-! ## SPI transactions (R176, R177) -/

/-- The command that stands in the queue for a transaction that names no command or has the wrong number of argument
bytes: a SET CURSOR of a table that is not there, whose one effect is the BAD-ARG answer of R177 (log 7). -/
def rejectedCommand : Instr := .setCursor 0xFF 0

/-- An SPI transaction joins the queue, so that transactions are taken, and answered, in their order (R176): its
command, or the command that is answered BAD-ARG (R177), or the abort of a transaction that ends before its command
is complete. -/
def State.withTransaction (s : State) (bytes : List Byte) : State :=
  match readTransaction bytes with
  | .command c => s.enqueue c
  | .badArg => s.enqueue rejectedCommand
  | .incomplete => s.enqueue .transactionAbort

end Sys2Proof.Machine
end

