-- ==== Sys2Proof/Laws/Ports.lean ====
section
/-! SUPPORT. The bytes of the serial links as records (R190), and the command that stands for a rejected
transaction (R176, R177). -/

namespace Sys2Proof

/-- A record that is complete has a kind byte, a length byte and that many bytes behind them. -/
theorem takeRecord_some {bytes : List Byte} {kind : Byte} {contents rest : List Byte}
    (h : takeRecord bytes = some (kind, contents, rest)) :
    bytes = kind :: BitVec.ofNat 8 contents.length :: (contents ++ rest) := by
  match bytes with
  | [] => simp [takeRecord] at h
  | [_] => simp [takeRecord] at h
  | k :: n :: tail =>
    simp only [takeRecord] at h
    split at h
    · simp only [Option.some.injEq, Prod.mk.injEq] at h
      obtain ⟨rfl, rfl, rfl⟩ := h
      simp [List.length_take, *]
    · cases h

/-- A record is taken at its length byte, whatever its kind and its contents are. -/
theorem takeRecord_append (kind : Byte) (contents rest : List Byte) (h : contents.length < 256) :
    takeRecord (kind :: BitVec.ofNat 8 contents.length :: (contents ++ rest)) = some (kind, contents, rest) := by
  simp [takeRecord, Nat.mod_eq_of_lt h]

/-- More fuel than there are bytes reads nothing more. -/
theorem takeRecords_fuel (n m : Nat) (bytes : List Byte) (hn : bytes.length ≤ n) (hm : bytes.length ≤ m) :
    takeRecords n bytes = takeRecords m bytes := by
  induction n generalizing m bytes with
  | zero =>
    obtain rfl := List.length_eq_zero_iff.mp (Nat.le_zero.mp hn)
    cases m <;> simp [takeRecords, takeRecord]
  | succ n ih =>
    cases m with
    | zero =>
      obtain rfl := List.length_eq_zero_iff.mp (Nat.le_zero.mp hm)
      simp [takeRecords, takeRecord]
    | succ m =>
      simp only [takeRecords]
      split
      · next kind contents rest h =>
        have := congrArg List.length (takeRecord_some h)
        simp at this
        rw [ih m rest (by omega) (by omega)]
      · rfl

/-- The first record of a link, and then the records of the bytes after it (R190). -/
theorem recordsOf_record (kind : Byte) (contents rest : List Byte) (h : contents.length < 256) :
    recordsOf (kind :: BitVec.ofNat 8 contents.length :: (contents ++ rest)) =
      ((kind, contents) :: (recordsOf rest).1, (recordsOf rest).2) := by
  show takeRecords (_ + 1) _ = _
  simp only [takeRecords, takeRecord_append kind contents rest h]
  rw [takeRecords_fuel _ rest.length rest (by simp; omega) (Nat.le_refl _)]
  rfl

namespace Machine

/-- A record of unknown kind is skipped whole: the part goes on with the bytes after it (R14, R190). -/
theorem withModemBytes_discarded (s : State) (kind : Byte) (contents rest : List Byte)
    (h : contents.length < 256) (hd : decodeModem kind contents = none) :
    s.withModemBytes (kind :: BitVec.ofNat 8 contents.length :: (contents ++ rest)) = s.withModemBytes rest := by
  simp [State.withModemBytes, recordsOf_record kind contents rest h, State.withModemRecord, hd]

/-- A record that spells a command puts it in the queue ahead of the records after it (R14, R190). -/
theorem withModemBytes_command (s : State) (kind : Byte) (contents rest : List Byte) (c : Instr)
    (h : contents.length < 256) (hd : decodeModem kind contents = some c) :
    s.withModemBytes (kind :: BitVec.ofNat 8 contents.length :: (contents ++ rest)) =
      (s.enqueue c).withModemBytes rest := by
  simp [State.withModemBytes, recordsOf_record kind contents rest h, State.withModemRecord, hd]

/-- The traffic link skips a discarded record likewise (R169, R190). -/
theorem withTrafficBytes_discarded (s : State) (kind : Byte) (contents rest : List Byte)
    (h : contents.length < 256) (hd : decodeTraffic kind contents = none) :
    s.withTrafficBytes (kind :: BitVec.ofNat 8 contents.length :: (contents ++ rest)) =
      s.withTrafficBytes rest := by
  simp [State.withTrafficBytes, recordsOf_record kind contents rest h, State.withTrafficRecord, hd]

/-- The traffic link's commands join the queue likewise (R169, R190). -/
theorem withTrafficBytes_command (s : State) (kind : Byte) (contents rest : List Byte) (c : Instr)
    (h : contents.length < 256) (hd : decodeTraffic kind contents = some c) :
    s.withTrafficBytes (kind :: BitVec.ofNat 8 contents.length :: (contents ++ rest)) =
      (s.enqueue c).withTrafficBytes rest := by
  simp [State.withTrafficBytes, recordsOf_record kind contents rest h, State.withTrafficRecord, hd]

/-- The command of a rejected transaction answers BAD-ARG and changes nothing else (R177). -/
theorem exec_rejectedCommand (s : State) : exec rejectedCommand s = .next (answer .badArg s) := rfl

end Machine

end Sys2Proof
end

