-- ==== Sys2Proof/Machine/Layouts.lean ====
section
/-! DEFINITION. The bytes of what the part sends: modem link records (R191), traffic link records (R193) and SPI
responses (R194). -/

namespace Sys2Proof.Machine

/-! ## Fields (R189) -/

/-- A number in one byte. -/
def numByte (n : Nat) : Byte := BitVec.ofNat 8 n

/-- A number in two bytes, high byte first. -/
def numWord (n : Nat) : List Byte := wordBytes (BitVec.ofNat 16 n)

/-- A number in four bytes, high byte first. -/
def numWide (n : Nat) : List Byte :=
  wordBytes ((BitVec.ofNat 32 n).extractLsb' 16 16) ++ wordBytes ((BitVec.ofNat 32 n).extractLsb' 0 16)

/-- An optional field of `size` bytes: its presence byte, then the field or zeros (R194). -/
def optionalField (size : Nat) : Option (List Byte) → List Byte
  | some bytes => 1 :: bytes
  | none => 0 :: List.replicate size 0

def branchBit : Branch → Bool
  | .main => false
  | .div => true

def dirByte : Dir → Byte
  | .inbound => 0
  | .outbound => 1

def bankBit : BankId → Bool
  | .a => false
  | .b => true

def laneByte (l : Lane) : Byte := boolByte (laneBit l)

def profileByte (p : Profile) : Byte := numByte p

/-! ## Modem link (R190, R191) -/

/-- Bytes 3 to 6, or 7 to 10, of a plan word. -/
def lanePlanBytes (w : LanePlan) : List Byte :=
  [BitVec.ofBool w.enabled ++ BitVec.ofBool (branchBit w.branch) ++ 0#6,
    nibbles w.outProfile w.outConstellation,
    nibbles w.inProfile w.inConstellation,
    0#1 ++ BitVec.ofFin (w := 3) w.outRate ++ 0#1 ++ BitVec.ofFin (w := 3) w.inRate]

/-- A record on the outbound modem link: kind, length and contents. -/
def modemBytes : ModemRecord → List Byte
  | .planWord w =>
    [4, 11] ++ wordBytes w.sfn ++ [BitVec.ofBool (bankBit w.bank) ++ BitVec.ofBool w.flipMarker ++ 0#6]
      ++ lanePlanBytes w.lanes.lane0 ++ lanePlanBytes w.lanes.lane1
  | .overheadOut n segment => [5, 10] ++ wordBytes n ++ bitsBytes (segmentBits segment)

/-! ## Traffic link (R190, R193) -/

/-- A run: class in bits 15-12, IDLE as 15, length in bits 11-0. -/
def runBytes (r : Run) : List Byte :=
  wordBytes (BitVec.ofNat 4 (match r.cls with
      | some c => c.val
      | none => 15) ++ BitVec.ofNat 12 r.length)

/-- A map. -/
def mapBytes (m : SlotMap) : List Byte :=
  numWord m.capacity ++ [numByte m.laneSplit, numByte m.runs.length] ++ m.runs.flatMap runBytes ++ [m.shed, m.short]

/-- A record with its kind and its length. -/
def framedRecord (kind : Byte) (contents : List Byte) : List Byte := kind :: numByte contents.length :: contents

def noticeBytes : Notice → List Byte
  | .capacity d e m => framedRecord 2 (dirByte d :: wordBytes e ++ mapBytes m)
  | .switched d e m => framedRecord 3 (dirByte d :: wordBytes e ++ mapBytes m)
  | .cancelled d e => framedRecord 4 (dirByte d :: wordBytes e)
  | .classBlocked c => framedRecord 5 [numByte c]
  | .classReleased c => framedRecord 6 [numByte c]

/-- The status byte of a MAP-REPLY: block flags present in bit 7, RESYNC pending in bit 6. -/
def replyStatus (r : MapReply) : Byte := BitVec.ofBool r.blocked.isSome ++ BitVec.ofBool r.resync ++ 0#6

/-- A record on the outbound traffic link. -/
def trafficBytes : TrafficRecord → List Byte
  | .mapReply r =>
    framedRecord 8 (dirByte r.dir :: wordBytes r.sfn ++ mapBytes r.map
      ++ [replyStatus r, r.blocked.getD 0, numByte r.queued])
  | .resync => framedRecord 7 []
  | .notice n => noticeBytes n

/-! ## SPI responses (R194; the places the rule leaves open are log 8) -/

def resultByte : Result → Byte
  | .ok => 0
  | .busy => 1
  | .refused _ => 2
  | .badArg => 3

def reasonByte : RefusedReason → Byte
  | .baseInvalid _ => 1
  | .constellation _ => 2
  | .stayAboveEnter _ => 3
  | .ladderOrder _ => 4
  | .ceiling _ => 5
  | .notVerified => 6
  | .noLock => 7
  | .peerSilent => 8
  | .laneOff => 9
  | .noShare => 10
  | .noRecord => 11

/-- The detail byte: the failing record of a commit refusal. -/
def detailByte : RefusedReason → Byte
  | .baseInvalid i => numByte i
  | .constellation i => numByte i
  | .stayAboveEnter i => numByte i
  | .ladderOrder i => numByte i
  | .ceiling i => numByte i
  | .notVerified => 0
  | .noLock => 0
  | .peerSilent => 0
  | .laneOff => 0
  | .noShare => 0
  | .noRecord => 0

def statusByte : StagedStatus → Byte
  | .editing => 0
  | .verified => 1
  | .offered => 2
  | .agreed => 3

def urgencyByte : Urgency → Byte
  | .normal => 0
  | .urgent => 1

def inStateByte : InState → Byte
  | .steady => 0
  | .asking => 1
  | .awaiting => 2
  | .awaitingTag => 3
  | .held => 4
  | .silent => 5

def holdReasonByte : HoldReason → Byte
  | .pinned => 0
  | .bank => 1

def outStateByte : OutState → Byte
  | .steady => 0
  | .scheduled => 1

def outModeByte : OutMode → Byte
  | .adaptive => 0
  | .pinned => 1
  | .fallback => 2

def sourceByte : EntrySource → Byte
  | .grantOut => 0
  | .grantIn => 1
  | .pin => 2
  | .mask => 3
  | .silence => 4
  | .flip => 5

def lockStateByte : LockState → Byte
  | .hunt => 0
  | .confirm => 1
  | .locked => 2

def deframerByte : DeframerState → Byte
  | .search => 0
  | .collect => 1

/-- A slot by its position in the table of R131. -/
def slotByte : Source → Byte
  | .reply .zero => 0
  | .reply .one => 1
  | .flipAnswer => 2
  | .ask .zero => 3
  | .ask .one => 4
  | .flipOffer => 5
  | .beacon => 6

def branchModeByte : BranchMode → Byte
  | .auto => 0
  | .fixedMain => 1
  | .fixedDiv => 2

def arbiterByte : ArbiterMode → Byte
  | .fixed => 0
  | .rotating => 1

/-- An outcome and, for DECLINED, its reason. -/
def outcomeBytes : FlipOutcome → List Byte
  | .agreed => [0, 0]
  | .declined r => [1, numByte (declineCode r)]
  | .withdrawn => [2, 0]
  | .unanswered => [3, 0]
  | .cancelled => [4, 0]

/-- An answer: toggle, target, kind, then the epoch of a GRANT and the reason of a REFUSE. -/
def answerBytes (a : Answer) : List Byte :=
  [boolByte a.toggle, profileByte a.target] ++
    match a.kind with
    | .grant e => 0 :: wordBytes e ++ [0]
    | .refuse r => [1, 0, 0, numByte (refuseCode r)]

def askBytes (a : OutstandingAsk) : List Byte :=
  [profileByte a.target, urgencyByte a.urgency, boolByte a.toggle, numByte a.retries, numByte a.timer]

/-- An awaited switch; its tag timer has a presence byte of its own behind the target (log 8). -/
def awaitedBytes (w : AwaitedSwitch) : List Byte :=
  profileByte w.target :: optionalField 2 (w.tagTimer.map numWord)

/-- The fields of an In context in the order of R72, less the tag run (R96). -/
def inContextBytes (c : InContext) : List Byte :=
  [profileByte c.pIn, inStateByte c.state] ++ optionalField 5 (c.ask.map askBytes)
    ++ optionalField 4 (c.awaited.map awaitedBytes) ++ [numByte c.upHold] ++ wordBytes c.refused
    ++ optionalField 1 (c.holdReason.map fun r => [holdReasonByte r])
    ++ optionalField 1 (c.pin.map fun p => [profileByte p]) ++ [boolByte c.toggle]
    ++ optionalField 1 (c.deferred.map fun u => [urgencyByte u]) ++ [boolByte c.farLaneOff]
    ++ optionalField 2 (c.farReport.map fun f => [profileByte f.outProfile, boolByte f.outPinned])

/-- The fields of an Out context in the order of R74. -/
def outContextBytes (c : OutContext) : List Byte :=
  [profileByte c.pOut, outStateByte c.state, outModeByte c.mode]
    ++ optionalField 1 (c.pin.map fun p => [profileByte p]) ++ optionalField 6 (c.lastAnswer.map answerBytes)

/-- The target a READ CONTEXT names for an entry. -/
def targetByte (x : Switch) : Byte :=
  match x with
  | .context _ _ p => profileByte p
  | .bank b => boolByte (bankBit b)

/-- The entry of an Out context; its target, epoch, source and committed flag stand behind one presence byte
(R96, log 8). -/
def entryBytes (e : Entry) : List Byte :=
  targetByte e.switch :: wordBytes e.epoch ++ [sourceByte e.source, boolByte e.committed]

def gradeBytes (g : GradeReading) : List Byte :=
  [numByte g.grade, numByte g.worst, numByte (marginCode g.margin), boolByte g.selectedLock,
      numByte g.counts.main, numByte g.counts.div]
    ++ optionalField 2 (g.metrics.main.map numWord) ++ optionalField 2 (g.metrics.div.map numWord)
    ++ [boolByte g.locks.main, boolByte g.locks.div, boolByte (branchBit g.selected), branchModeByte g.mode,
      numByte g.hold]

/-- The far fields of one lane in a READ LOCK; the margin state and the enabled flag share one presence byte, which
stands before both (R129, log 8). -/
def farBytes (f : FarStatus) : List Byte := [numByte (marginCode f.margin), boolByte f.enabled]

/-- The fields of a READ LOCK in the order of R129. A slot is a presence byte, an ASK slot with its urgency behind
it, and the far fields of a lane share one presence byte (log 8). -/
def lockBytes (r : LockReading) : List Byte :=
  [lockStateByte r.lock.state] ++ optionalField 2 (r.lock.offset.map wordBytes) ++ [numByte r.lock.mismatch]
    ++ numWord r.silence ++ numWord r.beacon
    ++ [deframerByte r.deframer, boolByte r.replyHeld.lane0, boolByte r.replyHeld.lane1, boolByte r.answerHeld]
    ++ optionalField 1 (r.askHeld.lane0.map fun u => [urgencyByte u])
    ++ optionalField 1 (r.askHeld.lane1.map fun u => [urgencyByte u])
    ++ [boolByte r.offerHeld, boolByte r.beaconHeld] ++ optionalField 1 (r.frame.map fun x => [slotByte x])
    ++ [arbiterByte r.arbiter, laneByte r.lastLane]
    ++ optionalField 2 (r.far.lane0.map farBytes) ++ optionalField 2 (r.far.lane1.map farBytes)
    ++ [boolByte r.peerSilent]

/-- A row of the table of R183 for both lanes, lane 0 first. -/
def bothLanes (p : PerLane LaneSecond) (f : LaneSecond → List Byte) : List Byte := f p.lane0 ++ f p.lane1

def secondsBytes (r : SecondsRecord) : List Byte :=
  wordBytes r.sequence ++ [boolByte r.lockLost, boolByte r.peerSilent, boolByte r.flipCompleted]
    ++ bothLanes r.lanes (fun x => [numByte x.worstGrade, numByte x.bestGrade])
    ++ bothLanes r.lanes (fun x => numWide x.correctedTotal)
    ++ bothLanes r.lanes (fun x => numWord x.uncorrectedTotal)
    ++ bothLanes r.lanes (fun x => numWord x.unlocked)
    ++ bothLanes r.lanes (fun x => [profileByte x.lowestIn, profileByte x.lowestOut])
    ++ bothLanes r.lanes (fun x => [profileByte x.endIn])
    ++ bothLanes r.lanes (fun x => [boolByte x.enabledAtEnd])
    ++ bothLanes r.lanes (fun x => numWord x.switches)
    ++ bothLanes r.lanes (fun x => numWord x.fastDrops)
    ++ bothLanes r.lanes (fun x => optionalField 1 (x.worstFarMargin.map fun m => [numByte (marginCode m)]))

/-- The data bytes of a response. -/
def dataBytes : ResponseData → List Byte
  | .empty => []
  | .profileRecord r => profileBytes r
  | .classRecord r => classBytes r
  | .word w => wordBytes w
  | .number 1 n => [numByte n]
  | .number _ n => numWord n
  | .thresholds ts => ts.toList.flatMap numWord
  | .flags x => wordBytes (x.setWidth 16)
  | .planStatus live status ld sd m =>
    [boolByte (bankBit live), statusByte status] ++ wordBytes ld ++ wordBytes sd
      ++ wordBytes m.lane0.inbound ++ wordBytes m.lane0.outbound
      ++ wordBytes m.lane1.inbound ++ wordBytes m.lane1.outbound
  | .status x outcome status =>
    wordBytes (x.setWidth 16) ++ optionalField 2 (outcome.map outcomeBytes) ++ [statusByte status]
  | .inContext c a silent => inContextBytes c ++ wordBytes a ++ [boolByte silent]
  | .outContext c a e silent =>
    outContextBytes c ++ wordBytes a ++ optionalField 5 (e.map entryBytes) ++ [boolByte silent]
  | .grade g => gradeBytes g
  | .lock r => lockBytes r
  | .counters vs => vs.flatMap numWord
  | .seconds r => secondsBytes r
  | .bins vs => vs.toList.flatMap numWide

/-- The bytes of a response: result, reason, detail, data length, data (R194). -/
def responseBytes (r : Response) : List Byte :=
  let d := dataBytes r.data
  resultByte r.result ::
    (match r.result with
      | .refused reason => [reasonByte reason, detailByte reason]
      | .ok => [0, 0]
      | .busy => [0, 0]
      | .badArg => [0, 0]) ++ numWord d.length ++ d

end Sys2Proof.Machine
end

