-- ==== Sys2Proof/WellFormed.lean ====
section
/-! DEFINITION. Which commands are well formed: those whose operands lie in the ranges their rules give. A command
that is not is answered BAD-ARG or discarded, so `exec` needs no such premise. -/

namespace Sys2Proof

open Machine

/-- The value of a WRITE PARAM is of its item's kind (R180). -/
def valueFits (v : ParamValue) (i : ParamItem) : Bool :=
  match i, v with
  | .lane .thresholds, .thresholds _ => true
  | .lane .thresholds, _ => false
  | .common .flagEnables, .flags _ => true
  | .common .flagEnables, _ => false
  | .common .planStatus, _ => false
  | _, .number _ => true
  | _, _ => false

/-- The lane argument of a parameter item, which an item common to both lanes does not read (R180). -/
def laneFits (i : ParamItem) (lane : Byte) : Bool :=
  match i with
  | .lane _ => (laneOf lane).isSome
  | .common _ => true

/-- A command's operands lie in their ranges. -/
def Instr.wellFormed : Instr → Bool
  | .powerOnReset => true
  | .superframeStart => true
  | .secondLatch => true
  | .silenceTimerExpiry => true
  | .beaconTimerExpiry => true
  | .responseTimerExpiry _ => true
  | .busyWaitExpiry _ => true
  | .tagTimerExpiry _ => true
  | .offerTimerExpiry => true
  | .entryCompletion => true
  | .bankEntryCompletion => true
  | .qualityReport r => !r.locked || r.tag.isSome
  | .overheadIn _ _ => true
  | .ask _ _ _ _ _ _ => true
  | .grant _ _ _ _ _ => true
  | .refuse _ _ _ _ _ => true
  | .beacon _ _ _ _ => true
  | .flipOffer _ _ _ _ _ => true
  | .flipAgree _ _ _ _ => true
  | .flipDecline _ _ _ => true
  | .mapQuery d => (dirOf d).isSome
  | .holdInput _ => true
  | .recordCompletion => true
  | .transactionAbort => true
  | .setCursor t i =>
    match tableOf t with
    | some .stagedLadder => decide (i.toNat < 16)
    | some .liveLadder => decide (i.toNat < 16)
    | some .stagedClasses => decide (i.toNat < 8)
    | some .liveClasses => decide (i.toNat < 8)
    | none => false
  | .readNext => true
  | .writeNext r => (profileRecordOf r).isSome || (classRecordOf r).isSome
  | .commitStaged => true
  | .copyLiveToStaged => true
  | .proposeFlip => true
  | .flipLocal => true
  | .writeMask l d m _ => (laneOf l).isSome && (dirOf d).isSome && (maskModeOf m).isSome
  | .pin l d p => (laneOf l).isSome && (dirOf d).isSome && (profileOf p).isSome
  | .unpin l d => (laneOf l).isSome && (dirOf d).isSome
  | .releaseClass c => (classOf c).isSome
  | .laneEnable l => (laneOf l).isSome
  | .laneDisable l => (laneOf l).isSome
  | .laneRestart l => (laneOf l).isSome
  | .overheadRestart => true
  | .fullClear => true
  | .writeParam i l v =>
    match itemOf i with
    | some x => laneFits x l && valueFits v x
    | none => false
  | .readParam i l =>
    match itemOf i with
    | some x => laneFits x l
    | none => false
  | .readStatus => true
  | .readContext l d => (laneOf l).isSome && (dirOf d).isSome
  | .readGrade l => (laneOf l).isSome
  | .readLock => true
  | .readCounters g _ => (groupOf g).isSome
  | .readRecord a => decide (a.toNat < Config.ringCapacity)
  | .readHistogram l d => (laneOf l).isSome && (dirOf d).isSome
  | .clearHistogram => true

end Sys2Proof
end

