-- ==== Sys2Proof/Tests/Slice0.lean ====
section
/-! SUPPORT. The model's own tests: ill-formed commands that the checks refuse, at most two small tests of one step
for each command, mostly taken from the worked examples of spec/, and for each statement with hypotheses a state and
operands that meet them. -/

namespace Sys2Proof.Tests

-- one after another: each kernel evaluation that waits would hold a thread of its own
set_option Elab.async false

open Sys2Proof.Machine

/-! ## Small states -/

/-- The state a command leads to. -/
def after (c : Instr) (s : State) : State :=
  match exec c s with
  | .next t => t
  | .fault _ => s
  | .refused _ => s

/-- The state a list of commands leads to. -/
def afterAll (cs : List Instr) (s : State) : State := cs.foldl (fun s c => after c s) s

def rung (constellation : Fin 16) (slots enter stay upHold : Nat) : ProfileRecord :=
  { valid := true, constellation := constellation, rate := 0, slots := slots, enter := enter, stay := stay
    upHold := upHold }

/-- The ladder that section 4.7 prepares: profiles 0 to 5 and 7 are valid. -/
def ladder : Bank :=
  { ladder := #v[rung 0 16 0 0 1, rung 1 38 2 1 2, rung 1 48 3 2 2, rung 3 64 5 3 3, rung 3 77 6 5 3, rung 5 96 8 6 4,
      .fill, rung 7 128 11 9 4, .fill, .fill, .fill, .fill, .fill, .fill, .fill, .fill]
    classes := (Vector.replicate 8 .fill).set 0
      { enabled := true, priority := 0, guaranteed := 20, ceiling := 480, shed := .restore } }

/-- Reset with that ladder live, at superframe `n`. -/
def planned (n : Sfn) : State :=
  { State.reset with
    mdp := { State.reset.mdp with
      sfn := n, history := ⟨.reset (n - 2), .reset (n - 1), .reset n, .reset (n + 1)⟩ }
    pst := { State.reset.pst with bankA := ladder, digestA := 0x1234 } }

/-- The In profile of lane 0 and the Out profile of lane `l`. -/
def holding (pIn pOut : Profile) (l : Lane) (s : State) : State :=
  setOut l { s.outCtx l with pOut := pOut } (setIn .zero { s.inCtx .zero with pIn := pIn } s)

/-- The offset lock LOCKED at an offset. -/
def lockedAt (o : Sfn) (s : State) : State := setLock ⟨.locked, some o, 0⟩ s

/-- A frame that keeps the lock at its offset. -/
def timesAt (o : Sfn) (s : State) : FrameTimes := ⟨s.sfn + o, s.sfn⟩

def asking (target : Profile) (timer : Nat) (busy : Bool) (s : State) : State :=
  setIn .zero { s.inCtx .zero with
    state := .asking, toggle := true, ask := some ⟨target, .urgent, true, 3, timer, busy⟩ } s

def report (l : Lane) (b : Branch) (n : Sfn) (locked : Bool) (mse : BitVec 10) (errors : BitVec 4) (tag : Profile) :
    QualityReport :=
  { lane := l, branch := b, sfn := n, locked := locked, mse := mse, corrected := 0, uncorrected := errors
    tag := some tag }

/-- An entry for a context. -/
def entryAt (d : Dir) (l : Lane) (target : Profile) (epoch : Sfn) (source : EntrySource) : Entry :=
  ⟨.context d l target, epoch, source, false⟩

/-- Bank B staged, the ladder's, with a status. -/
def stagedAs (status : StagedStatus) (s : State) : State :=
  { s with pst := { s.pst with bankB := ladder, digestB := 0x1234, status := status } }

/-- The MAIN report of lane 0 is taken, the DIV one missing, and the window of DIV at `n`. -/
def mainHeard (n : Nat) : State :=
  let s := planned 60
  let g := s.grader .zero
  setGrader .zero { g with branches := g.branches.set .div ⟨0, 0, n, none, true⟩ }
    { s with mdp := { s.mdp with taken := ⟨⟨⟨true, false, false⟩, .none⟩, ⟨.none, .none⟩⟩ } }

/-! ## Well-formed commands: one ill-formed command for each check -/

theorem test_wf_report : (Instr.qualityReport { report .zero .main 0 true 0 0 0 with tag := none }).wellFormed = false := by
  decide
theorem test_wf_mapQuery : (Instr.mapQuery 2).wellFormed = false := by decide
theorem test_wf_cursor_table : (Instr.setCursor 4 0).wellFormed = false := by decide
theorem test_wf_cursor_ladder : (Instr.setCursor 0 16).wellFormed = false := by decide
theorem test_wf_cursor_classes : (Instr.setCursor 1 8).wellFormed = false := by decide
theorem test_wf_cursor_live_ladder : (Instr.setCursor 2 16).wellFormed = false := by decide
theorem test_wf_cursor_live_classes : (Instr.setCursor 3 8).wellFormed = false := by decide
theorem test_wf_record : (Instr.writeNext #v[1, 16, 0, 241, 0xFF, 0xFF, 0]).wellFormed = false := by decide
theorem test_wf_mask_lane : (Instr.writeMask 2 0 0 0).wellFormed = false := by decide
theorem test_wf_mask_direction : (Instr.writeMask 0 2 0 0).wellFormed = false := by decide
theorem test_wf_mask_mode : (Instr.writeMask 0 0 3 0).wellFormed = false := by decide
theorem test_wf_pin_lane : (Instr.pin 2 0 0).wellFormed = false := by decide
theorem test_wf_pin_direction : (Instr.pin 0 2 0).wellFormed = false := by decide
theorem test_wf_pin_profile : (Instr.pin 0 0 16).wellFormed = false := by decide
theorem test_wf_unpin_lane : (Instr.unpin 2 0).wellFormed = false := by decide
theorem test_wf_unpin_direction : (Instr.unpin 0 2).wellFormed = false := by decide
theorem test_wf_class : (Instr.releaseClass 8).wellFormed = false := by decide
theorem test_wf_enable : (Instr.laneEnable 2).wellFormed = false := by decide
theorem test_wf_disable : (Instr.laneDisable 2).wellFormed = false := by decide
theorem test_wf_restart : (Instr.laneRestart 2).wellFormed = false := by decide
theorem test_wf_param_item : (Instr.writeParam 20 0 (.number 0)).wellFormed = false := by decide
theorem test_wf_param_lane : (Instr.writeParam 0 2 (.number 8)).wellFormed = false := by decide
theorem test_wf_param_kind : (Instr.writeParam 0 0 (.flags 8)).wellFormed = false := by decide
theorem test_wf_param_status : (Instr.writeParam 19 0 (.number 0)).wellFormed = false := by decide
theorem test_wf_read_item : (Instr.readParam 20 0).wellFormed = false := by decide
theorem test_wf_read_lane : (Instr.readParam 0 2).wellFormed = false := by decide
theorem test_wf_context_lane : (Instr.readContext 2 0).wellFormed = false := by decide
theorem test_wf_context_direction : (Instr.readContext 0 2).wellFormed = false := by decide
theorem test_wf_grade : (Instr.readGrade 2).wellFormed = false := by decide
theorem test_wf_counters : (Instr.readCounters 3 false).wellFormed = false := by decide
theorem test_wf_age : (Instr.readRecord 64).wellFormed = false := by decide
theorem test_wf_histogram_lane : (Instr.readHistogram 2 0).wellFormed = false := by decide
theorem test_wf_histogram_direction : (Instr.readHistogram 0 2).wellFormed = false := by decide

/-! ## Reset, time and the start event -/

/-- R16: every block has its power-on values. -/
theorem test_reset : after .powerOnReset (asking 2 5 false (planned 77)) = State.reset := by decide +kernel

/-- Section 1.2, the switch through the plan word lead: the state at 7199. -/
def leading : State :=
  { setOut .zero { pOut := 3, state := .scheduled, mode := .adaptive, pin := none, lastAnswer := none } (planned 7199) with
    sws := [entryAt .outbound .zero 5 7201 .grantOut] }

/-- Section 1.2: at 7200 the entry is committed and the word for 7201 carries profile 5. -/
theorem test_start_commits : (let t := after .superframeStart leading
    t.sfn = 7200 ∧ (t.outCtx .zero).pOut = 3 ∧ (t.mdp.history.next.lane .zero).outProfile = 5 ∧
      t.sws.map Entry.committed = [true]) := by decide +kernel

/-- Section 1.2: at 7201 the entry completes and the word for 7202 carries p_out = 5. -/
theorem test_start_completes : (let t := after .superframeStart (after .superframeStart leading)
    (t.outCtx .zero).pOut = 5 ∧ (t.outCtx .zero).state = .steady ∧ t.sws = [] ∧
      (t.mdp.history.next.lane .zero).outProfile = 5) := by decide +kernel

/-- R184: the record joins the ring and the next one takes the next sequence number. -/
theorem test_second_latch : (let s := State.reset
    let t := after .secondLatch { s with prc := { s.prc with second := 1999 } }
    t.prc.ring.map SecondsRecord.sequence = [0] ∧ t.prc.building.sequence = 1 ∧ t.prc.second = 0 ∧
      t.flagSet .recordReady = true) := by decide +kernel

/-- R90: an In context becomes SILENT and an Out context FALLBACK. -/
theorem test_silence : (let t := after .silenceTimerExpiry (setSilence 399 (holding 5 0 .zero (planned 50)))
    t.se.peerSilent = true ∧ (t.inCtx .zero).state = .silent ∧ (t.outCtx .one).mode = .fallback ∧
      t.flagSet .peerSilent = true ∧ t.ohl.silence = 0) := by decide +kernel

/-- R84, R90: a pinned Out context is settled at the silence expiry too, and its switch to the pin is made anew. -/
theorem test_silence_pinned : (let s := setSilence 399 (planned 50)
    let t := after .silenceTimerExpiry (setOut .one { s.outCtx .one with mode := .pinned, pin := some 3 } s)
    (t.outCtx .one).mode = .pinned ∧ t.entryOf .outbound .one = some (entryAt .outbound .one 3 83 .pin)) := by
  decide +kernel

/-- R135: the timer restarts and a BEACON stands in its slot. -/
theorem test_beacon_timer : (let t := after .beaconTimerExpiry (setBeaconTimer 63 State.reset)
    t.ohl.beacon = 0 ∧ t.ohl.tx.beacon = true) := by decide +kernel

/-- Chapter 6, row 8 of the fade: the ASK is repeated with its toggle, and one retry is spent. -/
theorem test_response_timer : (let t := after (.responseTimerExpiry .zero) (asking 0 1 false (planned 8046))
    (t.inCtx .zero).ask = some ⟨0, .urgent, true, 2, 24, false⟩ ∧
      t.ohl.tx.ask.get .zero = some ⟨0, .urgent, true⟩) := by decide +kernel

/-- R134: the draw of the event is ahead of the retry, which stands in its slot behind it; one that the command hands
over first is taken by the draw. -/
theorem test_retry_and_draw : (let s := asking 0 1 false (mainHeard 0)
    let t := after .superframeStart s
    let u := after .superframeStart (after (.responseTimerExpiry .zero) s)
    t.ohl.tx.ask.get .zero = some ⟨0, .urgent, true⟩ ∧ t.ohl.tx.frame = none ∧
      u.ohl.tx.ask.get .zero = none ∧ u.ohl.tx.frame = some (.ask .zero) ∧
      (u.inCtx .zero).ask = some ⟨0, .urgent, true, 2, 24, false⟩) := by decide +kernel

/-- R105: after a busy wait the ASK goes out with its toggle flipped and its retries kept. -/
theorem test_busy_wait : (let t := after (.busyWaitExpiry .zero) (asking 1 1 true (planned 60))
    (t.inCtx .zero).ask = some ⟨1, .urgent, false, 3, 24, false⟩) := by decide +kernel

/-- R102: the wait for the tag ends, and the grant is counted as unanchored. -/
theorem test_tag_timer : (let s := planned 60
    let t := after (.tagTimerExpiry .zero) (setIn .zero { s.inCtx .zero with
      state := .awaitingTag, awaited := some ⟨2, some 1⟩ } s)
    (t.inCtx .zero).state = .steady ∧ (t.inCtx .zero).awaited = none ∧
      t.counter (.se .zero .unanchoredGrants) = 1) := by decide +kernel

/-- An outstanding offer at 20000. -/
def offering (timer retries : Nat) : State :=
  let s := lockedAt 1200 (stagedAs .offered (planned 20000))
  { s with
    se := { s.se with flip := { s.se.flip with
      offer := some ⟨true, 21000, 0x1234, retries, timer⟩, offerToggle := true } }
    mgp := { s.mgp with params := { s.mgp.params with stationId := 3 } } }

/-- R112: the same FLIP-OFFER goes out again. -/
theorem test_offer_timer_repeats : (let t := after .offerTimerExpiry (offering 1 2)
    t.se.flip.offer = some ⟨true, 21000, 0x1234, 1, 24⟩ ∧
      t.ohl.tx.flipOffer = some ⟨true, 0x1234, 21000, 3⟩) := by decide +kernel

/-- R112: without retries the offer ends UNANSWERED. -/
theorem test_offer_timer_ends : (let t := after .offerTimerExpiry (offering 1 0)
    t.pst.status = .verified ∧ t.se.flip.lastOutcome = some .unanswered ∧ t.flagSet .flipFailed = true) := by
  decide +kernel

/-- R148: the entry of the superframe about to start completes. -/
theorem test_entry_completion : (let t := after .entryCompletion (after .superframeStart leading)
    (t.outCtx .zero).pOut = 5 ∧ t.sws = [] ∧ t.counter (.se .zero .switchesUp) = 1) := by decide +kernel

/-- Section 4.10, the remap at flip completion: the state at 29999, with the OUT mask's profile 7 cleared. -/
def flipping : State :=
  let s := stagedAs .agreed (planned 29999)
  let s := holding 6 8 .zero s
  let s := setOut .one { s.outCtx .one with pOut := 3 } s
  { s with
    pst := { s.pst with masks := ⟨⟨0xFFDF, 0xFF7F⟩, ⟨0xFFFF, 0x000F⟩⟩ }
    sws := [⟨.bank .b, 30000, .flip, true⟩] }

/-- Section 4.10: In0 goes to 4, Out0 to 5, Out1 stays at 3, and the banks swap. -/
theorem test_bank_completion : (let t := after .bankEntryCompletion flipping
    t.pst.live = .b ∧ t.pst.status = .editing ∧ (t.outCtx .zero).pOut = 5 ∧ (t.inCtx .zero).pIn = 4 ∧
      (t.outCtx .one).pOut = 3 ∧ (t.inCtx .one).pIn = 0 ∧ t.sws = []) := by decide +kernel

/-- R91, R98: the flip's re-decision sends an ASK, which has its whole response time ahead of it after that event. -/
theorem test_ask_keeps_time : (let t := after .superframeStart flipping
    (t.inCtx .zero).pIn = 4 ∧ (t.inCtx .zero).ask = some ⟨0, .normal, true, 3, 24, false⟩) := by decide +kernel

/-! ## Modem port -/

/-- Section 2.3: the fifteenth report has been taken, the grade stands at 9. -/
def windowed (n sum errors grade : Nat) (b : Branch) (metric : Option Nat) (s : State) : State :=
  let g := s.grader .zero
  let s := setGrader .zero { g with
    grade := grade, worst := grade
    branches := g.branches.set b ⟨sum, errors, n, metric, true⟩ } s
  let p := { s.laneParams .zero with penalty := 4, hysteresis := 16, fastDropMargin := 120 }
  { s with mgp := { s.mgp with laneParams := s.mgp.laneParams.set .zero p } }

/-- Section 2.3: the sixteenth report closes the window at metric 213, and the grade rises to 10. -/
theorem test_window_close : (let s := windowed 15 2952 3 9 .main none (planned 7901)
    let t := after (.qualityReport (report .zero .main 7900 true 260 0 0)) s
    (t.grader .zero).grade = 10 ∧
      (t.grader .zero).branches.get .main = ⟨0, 0, 0, some 213, true⟩) := by decide +kernel

/-- Chapter 3, event a: MSE code 400 at grade 10 is a fast drop to grade 6. -/
theorem test_fast_drop : (let s := windowed 5 1000 0 10 .main (some 213) (planned 8001)
    let t := after (.qualityReport (report .zero .main 8000 true 400 0 0)) s
    (t.grader .zero).grade = 6 ∧ (t.grader .zero).branches.get .main = ⟨0, 0, 0, some 213, true⟩ ∧
      t.counter (.se .zero .fastDrops) = 1) := by decide +kernel

/-- R121, R124: a frame that a peer sends in two segments is taken and counted. -/
theorem test_overhead_in : (let s := planned 100
    let bits := frameBits ((Frame.ask .one true false 4 0x1234).bytes 900) ++ flagBits ++ flagBits ++ flagBits ++
      flagBits ++ flagBits ++ flagBits
    let t := afterAll [.overheadIn true (segmentOf (bits.take 64)), .overheadIn true (segmentOf ((bits.drop 64).take 64))] s
    t.counter (.ohl .good) = 1 ∧ t.ohl.lock = ⟨.confirm, some 800, 0⟩ ∧
      t.ohl.tx.reply.get .one = some ⟨true, 4, .grant 132⟩) := by decide +kernel

/-- R121: a segment that is not valid ends a collection, which is counted as lost. -/
theorem test_overhead_lost : (let s := planned 100
    let t := afterAll [.overheadIn true (segmentOf ((frameBits [1, 2, 3, 4, 5, 6, 7, 8, 9]).take 64)),
      .overheadIn false 0] s
    t.counter (.ohl .lost) = 1 ∧ t.ohl.deframer.state = .search) := by decide +kernel

/-! ## Frames from the peer -/

/-- Section 5.4: Out1 holds profile 3 at `n`. -/
def answering (n : Sfn) : State := holding 0 3 .one (planned n)

/-- Section 5.4, events a and c: the urgent ASK replaces the entry of the normal one. -/
theorem test_ask_grants : (let s := answering 12000
    let s := after (.ask (timesAt 9 s) .one true false 4 0x1234) s
    let t := after (.ask ⟨0, 0⟩ .one false true 2 0x1234) (setSfn 12012 s)
    (s.outCtx .one).lastAnswer = some ⟨true, 4, .grant 12032⟩ ∧
      (t.outCtx .one).lastAnswer = some ⟨false, 2, .grant 12016⟩ ∧
      t.sws = [entryAt .outbound .one 2 12016 .grantOut]) := by decide +kernel

/-- Section 5.4, event e: a committed entry is answered BUSY. -/
theorem test_ask_busy : (let s := answering 12015
    let s := setOut .one { s.outCtx .one with state := .scheduled } s
    let t := after (.ask ⟨0, 0⟩ .one true true 1 0x1234)
      { s with sws := [{ entryAt .outbound .one 2 12016 .grantOut with committed := true }] }
    (t.outCtx .one).lastAnswer = some ⟨true, 1, .refuse .busy⟩ ∧
      t.ohl.tx.reply.get .one = some ⟨true, 1, .refuse .busy⟩) := by decide +kernel

/-- Chapter 6, row 3 of the fade: 9209 converts to 8009, which is in time. -/
theorem test_grant_in_time : (let s := lockedAt 1200 (asking 6 20 false (holding 5 0 .one (planned 8007)))
    let t := after (.grant (timesAt 1200 s) .zero true 6 9209) s
    (t.inCtx .zero).state = .awaiting ∧ t.sws = [entryAt .inbound .zero 6 8009 .grantIn]) := by decide +kernel

/-- Chapter 6, row 11 of the fade: 8053 is one ahead, which is late, and the switch is placed at 8054. -/
theorem test_grant_late : (let s := lockedAt 1200 (asking 0 19 false (holding 5 0 .one (planned 8052)))
    let t := after (.grant (timesAt 1200 s) .zero true 0 9253) s
    (t.inCtx .zero).awaited = some ⟨0, none⟩ ∧ t.sws = [entryAt .inbound .zero 0 8054 .grantIn] ∧
      t.counter (.se .zero .lateGrants) = 1) := by decide +kernel

/-- R105: after BUSY the ASK waits for two superframes. -/
theorem test_refuse_busy : (let s := asking 6 20 false (planned 70)
    let t := after (.refuse (timesAt 0 s) .zero true 6 .busy) s
    (t.inCtx .zero).ask = some ⟨6, .urgent, true, 3, 2, true⟩) := by decide +kernel

/-- R104: MASKED puts the target into the refused set, and the context decides again: 1 is the highest profile
below 2 whose stay grade the grade 1 reaches. -/
theorem test_refuse_masked : (let s := holding 3 0 .one (planned 70)
    let s := asking 2 20 false (setGrader .zero { s.grader .zero with grade := 1 } s)
    let t := after (.refuse (timesAt 0 s) .zero true 2 .masked) s
    (t.inCtx .zero).refused = 4 ∧ (t.inCtx .zero).ask = some ⟨1, .urgent, false, 3, 24, false⟩) := by decide +kernel

/-- R136: the far status is stored, and a lane enabled at one end only raises LANE-MISMATCH. -/
theorem test_beacon : (let s := planned 70
    let t := after (.beacon (timesAt 0 s) 0x9999 ⟨3, false, .fair, true⟩ ⟨2, true, .thin, false⟩) s
    t.ohl.far = ⟨some ⟨.fair, true⟩, some ⟨.thin, false⟩⟩ ∧ (t.inCtx .one).farReport = some ⟨2, true⟩ ∧
      t.flagSet .laneMismatch = true ∧ t.se.flip.divergence = 1) := by decide +kernel

/-- Chapter 6, crossing offers, row 3: station 7 withdraws before the offer of station 3 and agrees at 22200. -/
theorem test_offer_withdraws : (let s := lockedAt (65536 - 1200) (offering 20 3)
    let s := setSfn 21204 { s with mgp := { s.mgp with params := { s.mgp.params with stationId := 7 } } }
    let t := after (.flipOffer (timesAt (65536 - 1200) s) true 0x1234 21000 3) s
    t.pst.status = .agreed ∧ t.se.flip.lastOutcome = some .withdrawn ∧
      t.se.flip.lastAgreement = some ⟨true, 0x1234, 21000⟩ ∧ t.sws = [⟨.bank .b, 22200, .flip, false⟩] ∧
      t.ohl.tx.flipAnswer = some (.agree true 0x1234 21000)) := by decide +kernel

/-- Row 4: the offer of station 7 is declined by station 3 with CLASH. -/
theorem test_offer_clash : (let s := offering 20 3
    let t := after (.flipOffer (timesAt 1200 s) true 0x1234 22201 7) s
    t.pst.status = .offered ∧ t.ohl.tx.flipAnswer = some (.decline true .clash)) := by decide +kernel

/-- Row 5: the agreement matches, and the BANK entry stands at the offer's epoch. -/
theorem test_agree : (let s := setSfn 20008 (offering 20 3)
    let t := after (.flipAgree (timesAt 1200 s) true 0x1234 21000) s
    t.pst.status = .agreed ∧ t.se.flip.lastOutcome = some .agreed ∧
      t.sws = [⟨.bank .b, 21000, .flip, false⟩]) := by decide +kernel

/-- R115: a decline of the outstanding toggle ends the offer. -/
theorem test_decline : (let s := offering 20 3
    let t := after (.flipDecline (timesAt 1200 s) true .clash) s
    t.pst.status = .verified ∧ t.se.flip.lastOutcome = some (.declined .clash) ∧
      t.flagSet .offerDeclined = true) := by decide +kernel

/-! ## Traffic port -/

/-- Section 10, the overflow after event a: one notice waits behind a RESYNC, and the hold input is active. -/
def held : State :=
  let s := planned 60009
  { s with trp :=
    { queue := [.capacity .outbound 60032 .reset], reply := none, resync := true, sending := none, hold := true } }

/-- Section 10, events b and c: the later query replaces the waiting one. -/
theorem test_map_query : (let t := afterAll [.mapQuery 1, .mapQuery 0] held
    t.trp.reply = some .inbound ∧ t.trp.sending = none) := by decide +kernel

/-- Section 10, event d: the reply is built when the hold input becomes inactive. -/
theorem test_hold_input : (let t := afterAll [.mapQuery 0, .holdInput false] held
    t.trp.reply = none ∧ t.trp.sending = some (.mapReply ⟨.inbound, 60009, .reset, none, 1, true⟩)) := by
  decide +kernel

/-- Section 10, events e and f: the RESYNC begins and then the head notice. -/
theorem test_record_completion :
    (let t := afterAll [.mapQuery 0, .holdInput false, .recordCompletion] held
     let u := after .recordCompletion t
    t.trp.sending = some .resync ∧ t.trp.resync = false ∧
      u.trp.sending = some (.notice (.capacity .outbound 60032 .reset)) ∧ u.trp.queue = []) := by decide +kernel

/-! ## Management port: the plan -/

/-- R176: the response is gone (log 7). -/
theorem test_abort : (after .transactionAbort (after .readLock State.reset)).mgp.response = none := by decide +kernel

/-- R57: the index must be that of a record of the table. -/
theorem test_set_cursor : (let t := after (.setCursor 1 7) State.reset
    t.mgp.cursor = ⟨.stagedClasses, 7⟩ ∧ (after (.setCursor 1 8) t).mgp.cursor = ⟨.stagedClasses, 7⟩ ∧
      (after (.setCursor 1 8) t).mgp.response = some ⟨.badArg, .empty⟩) := by decide +kernel

/-- Section 4.7, step 12: READ NEXT returns the fill values of profile 8 and moves on. -/
theorem test_read_next : (let s := stagedAs .verified (planned 70)
    let t := after .readNext { s with mgp := { s.mgp with cursor := ⟨.stagedLadder, 8⟩ } }
    t.mgp.response = some ⟨.ok, .profileRecord .fill⟩ ∧ t.mgp.cursor = ⟨.stagedLadder, 9⟩ ∧
      t.pst.status = .verified) := by decide +kernel

/-- Section 4.7, step 7: profile 4 with stay grade 5. -/
theorem test_write_next : (let s := after (.setCursor 0 4) State.reset
    let t := after (.writeNext #v[1, 3, 0, 77, 6, 5, 3]) s
    t.stagedBank.profile 4 = rung 3 77 6 5 3 ∧ t.mgp.cursor = ⟨.stagedLadder, 5⟩ ∧ t.pst.status = .editing ∧
      t.pst.bankA = Bank.base) := by decide +kernel

/-- Section 4.7, step 5: profile 4 with stay grade 7 is refused before the ladder order is looked at. -/
theorem test_commit_stay : (let s := stagedAs .editing (planned 70)
    let t := after .commitStaged { s with pst := { s.pst with
      bankB := { ladder with ladder := ladder.ladder.set 4 (rung 3 77 6 7 3) } } }
    t.mgp.response = some ⟨.refused (.stayAboveEnter 4), .empty⟩ ∧ t.pst.status = .editing) := by decide +kernel

/-- Section 4.7, steps 8 and 11: 90 slots at profile 7 break the order, 128 do not. -/
theorem test_commit_order : (let s := stagedAs .editing (planned 70)
    let t := after .commitStaged { s with pst := { s.pst with
      bankB := { ladder with ladder := ladder.ladder.set 7 (rung 7 90 11 9 4) } } }
    t.mgp.response = some ⟨.refused (.ladderOrder 7), .empty⟩ ∧
      (after .commitStaged s).mgp.response = some ⟨.ok, .word 0x1234⟩ ∧
      (after .commitStaged s).pst.status = .verified) := by decide +kernel

/-- R61: the staged bank is the live one, with its digest. -/
theorem test_copy : (let t := after .copyLiveToStaged (planned 70)
    t.stagedBank = ladder ∧ t.stagedDigest = 0x1234 ∧ t.pst.status = .editing) := by decide +kernel

/-- Chapter 6, crossing offers, row 1: the offer is made for 20000 + 1000. -/
theorem test_propose : (let s := lockedAt 1200 (stagedAs .verified (planned 20000))
    let t := after .proposeFlip s
    t.pst.status = .offered ∧ t.se.flip.offer = some ⟨true, 21000, 0x1234, 3, 24⟩ ∧
      t.mgp.response = some ⟨.ok, .word 21000⟩) := by decide +kernel

/-- R116: the BANK entry stands two superframes ahead. -/
theorem test_flip_local : (let t := after .flipLocal (stagedAs .verified (planned 20000))
    t.sws = [⟨.bank .b, 20002, .flip, false⟩] ∧ t.pst.status = .agreed) := by decide +kernel

/-- Section 4.10: the OUT mask of lane 1, loaded as 1, 2, 3, is 0 to 3. -/
theorem test_write_mask : (let t := after (.writeMask 1 1 0 0x000E) (planned 70)
    t.mask .one .outbound = 0x000F ∧ t.mgp.response = some ⟨.ok, .word 0x000F⟩) := by decide +kernel

/-- Chapter 8, event c: the pin's switch would be fenced at 40035 and is made one superframe before the flip. -/
theorem test_pin : (let s := holding 0 3 .one (stagedAs .agreed (planned 40003))
    let t := after (.pin 1 1 2) { s with sws := [⟨.bank .b, 40025, .flip, false⟩] }
    (t.outCtx .one).mode = .pinned ∧ t.entryOf .outbound .one = some (entryAt .outbound .one 2 40024 .pin)) := by
  decide +kernel

/-- R86: an unpinned Out context is ADAPTIVE and holds its profile. -/
theorem test_unpin : (let t := afterAll [.pin 1 1 3, .unpin 1 1] (holding 0 3 .one (planned 70))
    (t.outCtx .one).mode = .adaptive ∧ (t.outCtx .one).pin = none ∧ (t.outCtx .one).pOut = 3 ∧ t.sws = []) := by
  decide +kernel

/-- R167: a blocked class with a share is released, and the notice says so. -/
theorem test_release : (let s := planned 70
    let t := after (.releaseClass 0) { s with cal := { s.cal with blocked := 1 }, trp := { s.trp with hold := true } }
    t.cal.blocked = 0 ∧ t.trp.queue = [.classReleased 0]) := by decide +kernel

/-! ## Management port: lanes, parameters and reads -/

/-- R93: a disabled lane's slots leave both maps. -/
theorem test_lane_disable : (let t := after (.laneDisable 1) State.reset
    t.enabled .one = false ∧ t.cal.live.outbound.capacity = 16 ∧ t.cal.live.inbound.laneSplit = 16) := by
  decide +kernel

/-- R93: an enabled lane starts afresh. -/
theorem test_lane_enable : (let t := afterAll [.laneDisable 1, .laneEnable 1] (holding 0 3 .one State.reset)
    t.enabled .one = true ∧ (t.outCtx .one).pOut = 0 ∧ t.cal.live.outbound.capacity = 32) := by decide +kernel

/-- Section 1.2: a restart during 7200 removes the committed entry, and the word for 7201 stays. -/
theorem test_lane_restart : (let t := after (.laneRestart 0) (after .superframeStart leading)
    t.sws = [] ∧ (t.outCtx .zero).pOut = 0 ∧ (t.mdp.history.next.lane .zero).outProfile = 5) := by decide +kernel

/-- R137: the lock starts afresh, and an outstanding offer is cancelled. -/
theorem test_overhead_restart : (let t := after .overheadRestart (offering 20 3)
    t.ohl.lock = .hunting ∧ t.se.flip.lastOutcome = some .cancelled ∧ t.pst.status = .verified) := by decide +kernel

/-- R71, R94: the contexts start afresh, and a lost agreement leaves the staged bank VERIFIED. -/
theorem test_full_clear : (let t := after .fullClear flipping
    t.se = .reset ∧ t.sws = [] ∧ t.pst.status = .verified ∧ t.pst.masks = flipping.pst.masks) := by decide +kernel

/-- R180: a short lead is clamped to 2 and to the long lead, and the stored value is returned. -/
theorem test_write_param : (let t := after (.writeParam 9 0 (.number 0)) State.reset
    let u := after (.writeParam 9 0 (.number 40)) State.reset
    t.mgp.response = some ⟨.ok, .number 1 2⟩ ∧ u.mgp.response = some ⟨.ok, .number 1 32⟩) := by decide +kernel

/-- R180: the default silence limit is 400, in two bytes. -/
theorem test_read_param : (after (.readParam 14 0) State.reset).mgp.response = some ⟨.ok, .number 2 400⟩ := by
  decide +kernel

/-- R178: the flags are returned once and cleared. -/
theorem test_read_status : (let t := after .readStatus (raise .flipDone State.reset)
    t.mgp.response = some ⟨.ok, .status 8 none .editing⟩ ∧ t.mgp.flags = 0) := by decide +kernel

/-- R96: the allowed set of an Out context is that of the valid profiles in its mask. -/
theorem test_read_context : (after (.readContext 0 1) (planned 70)).mgp.response =
    some ⟨.ok, .outContext .fresh 0x00BF none false⟩ := by decide +kernel

/-- R28, R29: the read returns the worst grade and then sets it to the grade. -/
theorem test_read_grade : (let s := planned 70
    let t := after (.readGrade 0) (setGrader .zero { s.grader .zero with grade := 9, worst := 4 } s)
    (match t.mgp.response with
      | some ⟨_, .grade r⟩ => r.worst == 4 && r.grade == 9
      | _ => false) = true ∧ (t.grader .zero).worst = 9) := by decide +kernel

/-- R129: the read returns the lock's state and offset. -/
theorem test_read_lock : (match (after .readLock (lockedAt 1200 State.reset)).mgp.response with
    | some ⟨_, .lock r⟩ => r.lock == ⟨.locked, some 1200, 0⟩ && r.lastLane == .one
    | _ => false) = true := by decide +kernel

/-- R182: a group is returned and cleared, and the others stay. -/
theorem test_read_counters : (let s := bump (.mdp .stale) (bump (.mdp .missing) (bump (.ohl .good) State.reset))
    let t := after (.readCounters 0 true) s
    t.mgp.response = some ⟨.ok, .counters [1, 0, 0, 1]⟩ ∧ t.counter (.mdp .stale) = 0 ∧
      t.counter (.ohl .good) = 1) := by decide +kernel

/-- R185: there is no record before the first latch. -/
theorem test_read_record : (after (.readRecord 0) State.reset).mgp.response = some ⟨.refused .noRecord, .empty⟩ ∧
    (after (.readRecord 64) State.reset).mgp.response = some ⟨.badArg, .empty⟩ := by decide +kernel

/-- R186: at the first start event the word for superframe 1 counts profile 0 in every bin row. -/
theorem test_read_histogram : (after (.readHistogram 0 1) (after .superframeStart State.reset)).mgp.response =
    some ⟨.ok, .bins ((Vector.replicate 16 0).set 0 1)⟩ := by decide +kernel

/-- R186: every bin is cleared. -/
theorem test_clear_histogram : (let t := after .clearHistogram (after .superframeStart State.reset)
    t.prc.histogram = State.reset.prc.histogram ∧ t.mgp.response = some ⟨.ok, .empty⟩) := by decide +kernel

/-! ## The bytes of the ports -/

/-- R14, R190: an unknown kind is skipped by its length, the map query joins the queue, and a record still arriving is
left over. -/
theorem test_traffic_bytes : (let r := State.reset.withTrafficBytes [9, 2, 0, 0, 1, 1, 1, 1, 1]
    r.1.pending = [.mapQuery 1] ∧ r.2 = [1, 1]) := by decide +kernel

/-- R176, R177: transactions are taken in their order, those that are no command too. -/
theorem test_transactions_in_order : ((State.reset.withTransaction [0xFF, 0]).withTransaction []).pending = [rejectedCommand, .transactionAbort] ∧
    (after rejectedCommand State.reset).mgp.response = some ⟨.badArg, .empty⟩ := by decide +kernel

/-! ## Whole tables of the spec -/

def cls (priority guaranteed ceiling : Nat) : ClassRecord :=
  { enabled := true, priority := priority, guaranteed := guaranteed, ceiling := ceiling, shed := .restore }

/-- The class table of section 9.4. -/
def classTable : Vector ClassRecord 8 :=
  #v[cls 0 20 20, cls 1 40 100, cls 2 30 200, cls 2 10 200, cls 3 0 480, .fill, .fill, .fill]

/-- Section 9.4, a fade on both lanes: 156 slots. -/
theorem test_allocation_fade : (let m := allocate 156 96 classTable
    m.runs = [⟨some 0, 20⟩, ⟨some 1, 96⟩, ⟨some 2, 30⟩, ⟨some 3, 10⟩] ∧ m.shed = 16 ∧ m.short = 0) := by decide +kernel

/-- Section 9.4, the round-robin within a level: 296 slots. -/
theorem test_allocation_round_robin : (let m := allocate 296 176 classTable
    m.runs = [⟨some 0, 20⟩, ⟨some 1, 100⟩, ⟨some 2, 98⟩, ⟨some 3, 78⟩] ∧ m.shed = 16) := by decide +kernel

/-- Section 2.3, the grade across several closes, in the order of its table. -/
theorem test_close_grades : (let p := { LaneParams.default with hysteresis := 16 }
    [closeGrade p 10 300, closeGrade p 8 290, closeGrade p 8 270, closeGrade p 9 280, closeGrade p 9 110,
      closeGrade p 14 1023] = [8, 8, 9, 9, 14, 0]) := by decide +kernel

/-! ## Witnesses: for each statement with hypotheses, a state and operands that meet them -/

/-- A state in motion: In0 ASKING, In1 pinned, Out0 SCHEDULED, Out1 PINNED, an offer outstanding, windows open, a
record latched and a notice waiting. -/
def moving : State :=
  let s := State.reset
  let g : LaneGrader := { LaneGrader.restart with
    branches := ⟨⟨2000, 3, 5, some 1023, true⟩, ⟨0, 0, 0, none, false⟩⟩, grade := 7, worst := 4 }
  { s with
    mdp := { s.mdp with sfn := 100, history := ⟨.reset 98, .reset 99, .reset 100, .reset 101⟩ }
    qg := ⟨g, .restart⟩
    pst := { s.pst with bankB := .base, digestB := 0xECD5, status := .offered }
    se := { s.se with
      inCtx := ⟨{ InContext.fresh with
          state := .asking, toggle := true, ask := some ⟨0, .urgent, true, 3, 5, false⟩ },
        { InContext.fresh with pin := some 0 }⟩
      outCtx := ⟨{ OutContext.fresh with state := .scheduled },
        { OutContext.fresh with mode := .pinned, pin := some 0 }⟩
      flip := { s.se.flip with offer := some ⟨true, 1100, 0xECD5, 3, 24⟩, offerToggle := true, divergence := 2 } }
    sws := [entryAt .outbound .zero 0 132 .grantOut]
    trp := { s.trp with queue := [.cancelled .outbound 40], hold := true }
    prc := { s.prc with ring := [.reset], building := { SecondsRecord.reset with sequence := 1 } }
    pending := [.superframeStart] }

/-- The state that a step leads to. -/
def stepped (s : State) : State :=
  match step s with
  | .next t => t
  | .fault _ => s
  | .refused _ => s

/-- The invariants' statements also ask for a step that answers a next state; this one changes much. -/
theorem moving_steps : step moving = .next (stepped moving) ∧ (stepped moving).sfn = 101 := ⟨rfl, by decide +kernel⟩

theorem witness_StepRunsFrontCommand : moving.pending = .superframeStart :: [] ∧ State.reset.pending = [] :=
  ⟨rfl, rfl⟩

theorem witness_StepKeepsGradesBounded : moving.GradesBounded ∧ step moving = .next (stepped moving) := by
  refine ⟨?_, rfl⟩
  intro l
  cases l <;> refine ⟨by decide, ⟨by decide, by decide, by decide, ?_⟩, ⟨by decide, by decide, by decide, ?_⟩,
    by decide, by decide⟩ <;> intro a h <;> cases h <;> decide

theorem witness_StepKeepsParamsInRange : moving.ParamsInRange ∧ step moving = .next (stepped moving) := by
  refine ⟨⟨?_, ?_⟩, rfl⟩
  · intro l
    cases l <;> constructor <;> decide
  · constructor <;> decide

theorem witness_StepKeepsContextsShaped : moving.ContextsShaped ∧ step moving = .next (stepped moving) := by
  refine ⟨?_, rfl⟩
  intro l
  cases l <;> exact ⟨⟨by decide, by decide, by decide, by decide, by decide⟩, by unfold OutContext.Shaped; decide⟩

theorem moving_scheduleShaped : moving.ScheduleShaped := by
  refine ⟨by decide, ?_⟩
  intro l
  cases l <;> decide

theorem witness_StepKeepsScheduleShaped : moving.ScheduleShaped ∧ step moving = .next (stepped moving) :=
  ⟨moving_scheduleShaped, rfl⟩

theorem witness_StepKeepsScheduleOrdered :
    moving.ScheduleShaped ∧ moving.ScheduleOrdered ∧ step moving = .next (stepped moving) := by
  refine ⟨moving_scheduleShaped, ⟨?_, by simp [moving]⟩, rfl⟩
  intro e h
  obtain rfl : e = entryAt .outbound .zero 0 132 .grantOut := by simpa [moving] using h
  decide

theorem moving_flipShaped : moving.FlipShaped := by
  refine ⟨by decide, by decide, ?_, ?_⟩
  · intro e f he hf ho
    obtain rfl : e = entryAt .outbound .zero 0 132 .grantOut := by simpa [moving] using he
    cases ho
  · intro e h
    cases h

theorem moving_banksChecked : moving.BanksChecked := ⟨commitFailure_base, fun _ => commitFailure_base⟩

theorem moving_zeroAllowed : moving.ZeroAllowed := by
  constructor
  · intro l d
    cases l <;> cases d <;> decide
  · intro l
    cases l <;> decide

theorem witness_StepKeepsFlipShaped : moving.FlipShaped ∧ step moving = .next (stepped moving) :=
  ⟨moving_flipShaped, rfl⟩

theorem witness_StepKeepsBanksChecked :
    moving.FlipShaped ∧ moving.BanksChecked ∧ step moving = .next (stepped moving) :=
  ⟨moving_flipShaped, moving_banksChecked, rfl⟩

theorem witness_StepKeepsDigestsAndProfileZero :
    step moving = .next (stepped moving) ∧ moving.DigestsHold ∧ moving.ZeroAllowed :=
  ⟨rfl, ⟨bankDigest_base.symm, bankDigest_base.symm⟩, moving_zeroAllowed⟩

theorem witness_StepKeepsPinsAllowed : moving.FlipShaped ∧ moving.BanksChecked ∧ moving.ZeroAllowed ∧
    moving.PinsAllowed ∧ step moving = .next (stepped moving) := by
  refine ⟨moving_flipShaped, moving_banksChecked, moving_zeroAllowed, ⟨?_, ?_⟩, rfl⟩ <;>
    intro l p h <;> cases l <;> cases h <;> decide

theorem witness_StepKeepsCapacities : moving.Bounded ∧ step moving = .next (stepped moving) := by
  refine ⟨⟨by decide, by decide, ?_, ?_, ?_, by decide, by decide⟩, rfl⟩
  · intro i r h
    match i, h with
    | 0, h => cases h; decide
  · intro c
    simp [moving, State.counter, State.reset, Prc.reset]
  · intro l d p
    cases l <;> cases d <;> simp [moving, State.reset, Prc.reset, PerLane.get, PerDir.get]

theorem witness_StepKeepsMapsCurrent : moving.MapsCurrent ∧ step moving = .next (stepped moving) := by
  refine ⟨?_, rfl⟩
  intro d
  cases d <;> decide +kernel

/-- Lane 1 disabled. -/
def oneLane : State := { State.reset with mdp := { State.reset.mdp with enabled := ⟨true, false⟩ } }

/-- A BANK entry for the word that the next start event emits. -/
def flipAhead : State := { flipping with sws := [⟨.bank .b, 30001, .flip, false⟩] }

theorem witness_PlanWordFollowsSchedule :
    (∀ s, exec .superframeStart s = .next (after .superframeStart s)) ∧
    (after .superframeStart moving).mdp.history.next.flipMarker = false ∧
    (after .superframeStart leading).mdp.history.next.flipMarker = false ∧
    ((after .superframeStart leading).entryOf .outbound .zero).map Entry.epoch = some 7201 ∧
    (after .superframeStart flipAhead).mdp.history.next.flipMarker = true ∧ oneLane.enabled .one = false :=
  ⟨fun _ => rfl, by decide +kernel, by decide +kernel, by decide +kernel, by decide +kernel, rfl⟩

/-- The timers of a start event with their counts, and no share taken. -/
def ticking (silence beacon second : Nat) : State :=
  let s := setSilence silence (setBeaconTimer beacon (planned 50))
  { s with prc := { s.prc with second := second } }

theorem witness_StartEventTicksTimersAndRecorder :
    (ticking 399 63 1999).shares = [] ∧ (ticking 399 63 1999).params.silenceLimit ≤ 399 + 1 ∧
    ¬(ticking 398 62 1998).params.silenceLimit ≤ 398 + 1 ∧ (ticking 399 63 1999).params.beaconPeriod ≤ 63 + 1 ∧
    ¬(ticking 398 62 1998).params.beaconPeriod ≤ 62 + 1 ∧ (ticking 399 63 1999).params.secondLength ≤ 1999 + 1 ∧
    ¬(ticking 398 62 1998).params.secondLength ≤ 1998 + 1 ∧ (ticking 0 0 0).mdp.history.next.flipMarker = false := by
  decide

def bumpedTo (n : Nat) : State :=
  { State.reset with prc := { State.reset.prc with counters := State.reset.prc.counters.set 3 n } }

theorem witness_MissingReportsAreSynthesised :
    ((mainHeard 0).mdp.taken.get .zero).get .main = ⟨true, false, false⟩ ∧
    ((mainHeard 0).mdp.taken.get .zero).get .div = .none ∧ ((mainHeard 0).mdp.history.twoAgo.lane .zero).enabled = true ∧
    0 + 1 < ((mainHeard 0).laneParams .zero).window ∧ ¬15 + 1 < ((mainHeard 15).laneParams .zero).window ∧
    ((mainHeard 0).laneParams .zero).branchMode.fixed = none ∧ ((mainHeard 0).grader .zero).selected = .main ∧
    (((mainHeard 0).grader .zero).branches.get .div).latestLock = true ∧
    (State.reset.prc.building.lanes.get .zero).unlocked < 4000 ∧
    (State.reset.mdp.history.twoAgo.lane .zero).branch = .main ∧ State.reset.enabled .zero = true ∧
    (State.reset.mdp.history.twoAgo.lane .zero).enabled = true ∧
    ((State.reset.mdp.taken.get .zero).get .main).twoAgo = false ∧
    (bumpedTo 65531).counter (.mdp .missing) + 4 ≤ 65535 ∧ oneLane.enabled .one = false := by decide +kernel

/-- In0 completes at 101 and Out0 at 132. -/
def completing : State :=
  { moving with sws := [entryAt .inbound .zero 0 101 .grantIn, entryAt .outbound .zero 0 132 .grantOut] }

theorem witness_EntryCompletionTakesTargets : completing.ScheduleShaped ∧ (dueEntries completing).isEmpty = true ∧
    entryAt .inbound .zero 0 101 .grantIn ∈ completing.sws ∧
    (dueEntries (setSfn 101 completing)).isEmpty = false ∧ completing.trp.Quiet ∧
    2 ≤ completing.params.longLead ∧ completing.params.longLead ≤ 255 ∧ 2 ≤ completing.params.shortLead ∧
    completing.params.shortLead ≤ 64 ∧ completing.counter (.se .zero .switchesUp) + 2 ≤ 65535 ∧
    completing.counter (.se .zero .switchesDown) + 2 ≤ 65535 ∧
    (completing.prc.building.lanes.get .zero).switches + 2 ≤ 65535 := by
  refine ⟨⟨by decide, ?_⟩, by decide, by decide, by decide, Or.inl rfl, by decide⟩
  intro l
  cases l <;> decide

theorem witness_BankEntryCompletionFlips : flipping.entry .bank = some ⟨.bank .b, 30000, .flip, true⟩ ∧
    (30000 : Sfn) = flipping.sfn + 1 ∧ (30000 : Sfn) = (setSfn 30000 flipping).sfn ∧
    (∀ e ∈ flipAhead.sws, e.owner = .bank → e.epoch ≠ flipAhead.sfn ∧ e.epoch ≠ flipAhead.sfn + 1) ∧
    flipping.trp.Quiet ∧ flipping.ScheduleShaped ∧ (∀ l, flipping.entryOf .outbound l = none) ∧
    2 ≤ flipping.params.longLead ∧ flipping.params.longLead ≤ 255 ∧ 2 ≤ flipping.params.shortLead ∧
    flipping.params.shortLead ≤ 64 := by
  refine ⟨by decide +kernel, by decide +kernel, by decide +kernel, by decide +kernel, Or.inl rfl,
    ⟨by decide +kernel, ?_⟩, ?_, by decide +kernel⟩ <;> (intro l; cases l <;> decide +kernel)

/-- The silence timer one short of its limit, with a short lead and an Out0 entry. -/
def goingSilent (lead : Nat) (entries : List Entry) : State :=
  let s := setSilence 399 (holding 5 3 .zero (planned 50))
  { s with
    sws := entries
    mgp := { s.mgp with params := { s.mgp.params with shortLead := lead } } }

/-- Out1 pinned to a profile. -/
def pinnedAt (p : Profile) (s : State) : State := setOut .one { s.outCtx .one with mode := .pinned, pin := some p } s

theorem witness_SilenceExpirySetsFallback :
    (let s := goingSilent 2 []
     s.params.silenceLimit ≤ s.ohl.silence + 1 ∧ hasShare s .silence = false ∧ s.se.peerSilent = false ∧
      (s.outCtx .zero).mode ≠ .pinned ∧ s.entry .bank = none ∧ 2 ≤ s.params.shortLead ∧ s.params.shortLead ≤ 64 ∧
      s.entryOf .outbound .zero = none ∧ (s.outCtx .zero).pOut ≠ 0 ∧ (s.outCtx .one).pOut = 0) ∧
    (let s := goingSilent 64 [entryAt .outbound .zero 2 80 .grantOut]
     s.params.shortLead ≤ 64 ∧ (s.entryOf .outbound .zero).map Entry.committed = some false) ∧
    (let s := goingSilent 4 [{ entryAt .outbound .zero 2 51 .grantOut with committed := true }]
     (s.entryOf .outbound .zero).map Entry.committed = some true) ∧
    (setPeerSilent true (goingSilent 4 [])).se.peerSilent = true ∧
    (ticking 398 0 0).ohl.silence + 1 < (ticking 398 0 0).params.silenceLimit ∧
    ((pinnedAt 3 (goingSilent 4 [])).outCtx .one).mode = .pinned ∧ (pinnedAt 3 (goingSilent 4 [])).ScheduleShaped ∧
    2 ≤ (goingSilent 4 []).params.longLead ∧ (goingSilent 4 []).params.longLead ≤ 255 := by
  refine ⟨by decide +kernel, by decide +kernel, by decide +kernel, by decide +kernel, by decide +kernel,
    by decide +kernel, ⟨by decide +kernel, ?_⟩, by decide +kernel⟩
  intro l
  cases l <;> decide +kernel

/-- An In0 that waits for a tag. -/
def awaitingTag (timer : Nat) : State :=
  let s := planned 60
  setIn .zero { s.inCtx .zero with state := .awaitingTag, awaited := some ⟨2, some timer⟩ } s

def spent (s : State) : State :=
  setIn .zero { s.inCtx .zero with ask := some ⟨0, .urgent, true, 0, 1, false⟩ } s

theorem witness_AskTimersExpire :
    ((asking 0 1 false (planned 60)).inCtx .zero).ask = some ⟨0, .urgent, true, 3, 1, false⟩ ∧
    ((spent (asking 0 1 false (planned 60))).inCtx .zero).ask = some ⟨0, .urgent, true, 0, 1, false⟩ ∧
    ((spent (asking 0 1 false (planned 60))).inCtx .zero).deferred = none ∧
    ((asking 0 1 true (planned 60)).inCtx .zero).ask = some ⟨0, .urgent, true, 3, 1, true⟩ ∧
    ((awaitingTag 1).inCtx .zero).awaited = some ⟨2, some 1⟩ ∧ ((awaitingTag 1).inCtx .zero).deferred = none ∧
    Share.response .zero ∉ (asking 0 1 false (planned 60)).shares ∧ Share.tag .zero ∉ (awaitingTag 1).shares ∧
    ((asking 0 2 false (planned 60)).inCtx .zero).ask.all (fun a => decide (1 < a.timer)) = true ∧
    ((awaitingTag 2).inCtx .zero).awaited.all (fun w => w.tagTimer.all fun n => decide (1 < n)) = true := by
  decide +kernel

/-- The timers of the asks and tags at their last superframe, as the start event finds them behind the draw. -/
theorem witness_SuperframeStartMovesOn : moving.ScheduleShaped ∧ moving.ContextsShaped ∧
    ((untilDraw moving).inCtx .zero).ask = some ⟨0, .urgent, true, 3, 5, false⟩ ∧
    ((untilDraw (asking 0 1 false (planned 60))).inCtx .zero).ask = some ⟨0, .urgent, true, 3, 1, false⟩ ∧
    ((untilDraw (spent (asking 0 1 false (planned 60)))).inCtx .zero).ask = some ⟨0, .urgent, true, 0, 1, false⟩ ∧
    ((untilDraw (asking 0 1 true (planned 60))).inCtx .zero).ask = some ⟨0, .urgent, true, 3, 1, true⟩ ∧
    ((untilDraw (awaitingTag 1)).inCtx .zero).awaited = some ⟨2, some 1⟩ ∧
    ((untilDraw (awaitingTag 2)).inCtx .zero).awaited = some ⟨2, some 2⟩ ∧
    Share.response .zero ∈ (untilDraw flipping).shares ∧ Share.response .zero ∉ (untilDraw moving).shares ∧
    (ticking 399 0 0).params.silenceLimit ≤ (ticking 399 0 0).ohl.silence + 1 ∧
    Share.silence ∉ (ticking 399 0 0).shares ∧ (ticking 399 0 0).se.peerSilent = false := by
  refine ⟨moving_scheduleShaped, witness_StepKeepsContextsShaped.1, ?_⟩
  decide +kernel

theorem witness_OfferTimerRepeatsThenEnds :
    (∀ timer retries, (offering timer retries).se.flip.offer = some ⟨true, 21000, 0x1234, retries, timer⟩ ∧
      exec .superframeStart (offering timer retries) = .next (after .superframeStart (offering timer retries)) ∧
      exec .offerTimerExpiry (offering timer retries) = .next (after .offerTimerExpiry (offering timer retries)) ∧
      Share.offer ∉ (offering timer retries).shares) ∧ 1 < 2 ∧ 0 < 1 := by
  refine ⟨fun timer retries => ⟨rfl, rfl, ?_, List.not_mem_nil⟩, by decide⟩
  simp only [exec, after, execOfferTimerExpiry]
  split <;> rfl

theorem witness_BeaconAndOfferTimersExpire :
    (ticking 0 63 0).params.beaconPeriod ≤ (ticking 0 63 0).ohl.beacon + 1 ∧
    ¬(ticking 0 62 0).params.beaconPeriod ≤ (ticking 0 62 0).ohl.beacon + 1 ∧
    (offering 1 1).se.flip.offer.isSome = true ∧ (planned 50).se.flip.offer = none := by decide

theorem witness_SecondLatchJoinsRing : (ticking 0 0 1999).params.secondLength ≤ (ticking 0 0 1999).prc.second + 1 ∧
    Share.second ∉ (ticking 0 0 1999).shares ∧
    (ticking 0 0 1998).prc.second + 1 < (ticking 0 0 1998).params.secondLength := by decide

/-! ### Quality reports -/

/-- The class of a MAIN report of lane 0 for superframe `n`, at 5000 with the report for 4998 taken. -/
def classAt (n : Sfn) : ReportClass :=
  let s := planned 5000
  classify { s with mdp := { s.mdp with taken := ⟨⟨⟨true, false, false⟩, .none⟩, ⟨.none, .none⟩⟩ } }
    (report .zero .main n true 0 0 0)

theorem witness_ReportsAreClassified : classAt 5000 = .future ∧ classAt 5001 = .future ∧ classAt 9096 = .future ∧
    classAt 9097 = .stale ∧ classAt 4999 = .accepted .oneAgo ∧ classAt 4998 = .duplicate ∧ classAt 4997 = .stale ∧
    classify (planned 5000) (report .zero .div 4998 true 0 0 0) = .accepted .twoAgo ∧
    classify oneLane (report .one .main 65535 true 0 0 0) = .discarded := by decide +kernel

/-- Grade 10 with `n` reports in the window of MAIN; DIV's latest lock is `other`. -/
def graded (n : Nat) (other : Bool) (metric : Option Nat) : State :=
  let s := windowed n (n * 200) 0 10 .main (some 213) (planned 8001)
  let g := s.grader .zero
  setGrader .zero { g with branches := g.branches.set .div ⟨0, 0, 0, metric, other⟩ } s

theorem witness_LockLossTakesGradeToZero :
    (let s := graded 5 true none
     let r := report .zero .main 8000 false 0 0 0
     classify s r = .accepted .oneAgo ∧ classify s { r with sfn := 7999 } = .accepted .twoAgo ∧ r.locked = false ∧
      r.branch = ((s.mdp.history.at .oneAgo).lane r.lane).branch ∧ (s.laneParams .zero).branchMode = .auto ∧
      (s.grader .zero).selected = r.branch ∧ ((s.grader .zero).branches.get .div).latestLock = true ∧
      s.counter (.se .zero .fastDrops) < 65535 ∧ (s.prc.building.lanes.get .zero).unlocked < 4000) ∧
    (((graded 5 false none).grader .zero).branches.get .div).latestLock = false := by decide +kernel

theorem witness_FastDropTakesInstantGrade :
    (let s := graded 5 true none
     let r := report .zero .main 8000 true 376 0 0
     classify s r = .accepted .oneAgo ∧ r.locked = true ∧
      r.branch = ((s.mdp.history.at .oneAgo).lane r.lane).branch ∧
      thresholdAt (s.laneParams .zero).thresholds (s.grader .zero).grade = some 255 ∧ 255 + 120 < r.mse.toNat ∧
      (s.laneParams .zero).fastDropMargin = 120) ∧ ((graded 5 true none).laneParams .zero).InRange := by
  refine ⟨by decide +kernel, ?_⟩
  constructor <;> decide

theorem witness_SelectedReportFillsWindow :
    (let r := report .zero .main 8000 true 375 0 0
     let full := graded 15 true (some 100)
     let open' := graded 14 true (some 100)
     classify full r = .accepted .oneAgo ∧ classify open' r = .accepted .oneAgo ∧
      fastDropFires full .zero 375 = false ∧ fastDropFires open' .zero 375 = false ∧
      ((open'.grader .zero).branches.get .main).count + 1 < (open'.laneParams .zero).window ∧
      ((full.grader .zero).branches.get .main).count + 1 = (full.laneParams .zero).window ∧
      r.branch = ((full.mdp.history.at .oneAgo).lane r.lane).branch ∧ (full.grader .zero).hold = 0) := by
  decide +kernel

/-- The mode FIXED-DIV at lane 0, while the words name MAIN. -/
def fixedDiv : State :=
  let s := graded 5 true none
  let p := { s.laneParams .zero with branchMode := .fixedDiv }
  { s with mgp := { s.mgp with laneParams := s.mgp.laneParams.set .zero p } }

theorem witness_OtherBranchOnlyFillsItsWindow :
    (let s := graded 5 true none
     let r := report .zero .div 8000 true 205 0 0
     classify s r = .accepted .oneAgo ∧ r.branch ≠ ((s.mdp.history.at .oneAgo).lane r.lane).branch ∧
      (s.laneParams .zero).branchMode.fixed = none) ∧
    classify fixedDiv (report .zero .div 8000 true 205 0 0) = .accepted .oneAgo ∧
    (fixedDiv.laneParams .zero).branchMode.fixed = some .div := by decide +kernel

/-- In0 at profile 0 with a tag run. -/
def tagged (run : Option TagRun) : State :=
  let s := graded 5 true none
  setIn .zero { s.inCtx .zero with tagRun := run } s

/-- That In0 with its entry, and an In1 entry for the same superframe. -/
def entered (committed : Bool) : State :=
  { tagged (some ⟨3, 1⟩) with
    sws := [{ entryAt .inbound .zero 2 8010 .grantIn with committed := committed }, entryAt .inbound .one 2 8010 .grantIn]
    trp := { State.reset.trp with hold := true } }

/-- That In0 in an exchange for a target. -/
def askingTagged (target : Profile) : State := asking target 9 false (tagged (some ⟨3, 1⟩))

theorem witness_TagFollowRunsAndAdopts :
    (let r := report .zero .main 8000 true 205 0 3
     classify (tagged none) r = .accepted .oneAgo ∧ classify (tagged (some ⟨3, 1⟩)) r = .accepted .oneAgo ∧
      classify (tagged (some ⟨3, 2⟩)) r = .accepted .oneAgo ∧ r.locked = true ∧ r.tag = some 3 ∧
      r.branch = (((tagged none).mdp.history.at .oneAgo).lane r.lane).branch ∧
      (tagged none).liveBank.valid 3 = true ∧ (tagged none).liveBank.valid 6 = false ∧
      ((tagged none).inCtx .zero).pIn ≠ 3 ∧ fastDropFires (tagged none) .zero 205 = false) ∧
    (let r := report .zero .main 8000 true 205 0 6
     classify (tagged (some ⟨6, 1⟩)) r = .accepted .oneAgo ∧ ((tagged (some ⟨6, 1⟩)).inCtx .zero).tagRun = some ⟨6, 1⟩ ∧
      (tagged (some ⟨6, 1⟩)).counter (.se .zero .bankDivergences) < 65535) ∧
    ((entered false).entryOf .inbound .zero).any (fun e => !e.committed) = true ∧
    ((entered true).entryOf .inbound .zero).any Entry.committed = true ∧ (entered false).trp.Quiet ∧
    ((askingTagged 3).inCtx .zero).ask.any (fun a => a.target == 3) = true ∧
    ((askingTagged 2).inCtx .zero).ask.any (fun a => a.target == 3) = false ∧
    (askingTagged 2).counter (.se .zero .divergences) < 65535 :=
  ⟨by decide +kernel, by decide +kernel, by decide +kernel, by decide +kernel, Or.inl rfl, by decide +kernel⟩

/-- R152, R165: the entry that the tag takes away leaves CANCELLED and a forecast anew, for In1 still switches there. -/
theorem test_tag_renews_forecast :
    ((after (.qualityReport (report .zero .main 8000 true 205 0 3)) (entered false)).trp.queue.map fun n =>
      match n with
      | .cancelled d e => (0, d, e)
      | .capacity d e _ => (1, d, e)
      | .switched d e _ => (2, d, e)
      | _ => (3, .outbound, 0)) = [(0, .inbound, 8010), (1, .inbound, 8010), (2, .inbound, 8001)] := by decide +kernel

/-! ### The overhead link -/

theorem witness_CheckComputationAndResidue :
    (let bits := ((Frame.refuse .one true 3 .busy).bytes 7).flatMap byteBits
     bits.length = 48 ∧ bits.foldl checkBit 0xFFFF#16 = 0) ∧
    (let bits := ([0, 0, 0, 0, 0] : List Byte).flatMap byteBits
     bits.length = 40 ∧ bits.foldl checkBit 0xFFFF#16 ≠ 0) := by decide +kernel

/-- REPLY1, ASK0 and BEACON hold a message each; the second ASK is there when `both`. -/
def sending (both : Bool) (bits : List Bool) : State :=
  let s := planned 500
  setTx { s.ohl.tx with
    reply := ⟨none, some ⟨true, 2, .grant 540⟩⟩
    ask := ⟨some ⟨1, .normal, true⟩, if both then some ⟨2, .normal, false⟩ else none⟩, beacon := true, bits := bits } s

theorem witness_DrawSendsFramesOrFlags :
    (planned 500).ohl.tx.bits = [] ∧ pickSlot (planned 500) (planned 500).ohl.tx = none ∧
    (∀ k, (sending true (List.replicate k false)).ohl.tx.bits.length = k ∧
      pickSlot (sending true (List.replicate k false)) (sending true (List.replicate k false)).ohl.tx =
        some (.reply .one, .grant .one true 2 540)) ∧
    55 + 8 < 64 ∧ ¬56 + 8 < 64 ∧ 56 < 64 ∧ 64 < 65 := by
  refine ⟨by decide +kernel, by decide +kernel, fun k => ⟨List.length_replicate, rfl⟩, by decide⟩

theorem witness_ArbiterPicksByPriority :
    (let s := sending true []
     let t := (sending true []).ohl.tx.taking (.reply .one)
     pickSlot s s.ohl.tx = some (.reply .one, .grant .one true 2 540) ∧
      pickSlot s t = some (.ask .zero, .ask .zero true false 1 0x1234) ∧ slotFrame s t (.ask .one) ≠ none ∧
      slotFrame s t .beacon ≠ none) := by decide +kernel

/-- A deframer that collects `n` bits, behind a run of ones. -/
def collectingBits (n run : Nat) : State :=
  setDeframer ⟨.collect, List.replicate n false, run, some 500, if run = 0 then none else some 500⟩ (planned 500)

/-- A bit for each end of a collection: an abort, a flag behind a runt and behind a misaligned candidate, the 97th bit,
and the 98th, which is overlong. -/
theorem witness_OverheadInReachesTheDeframer :
    ((takeBit 500 (collectingBits 9 7) true).counter (.ohl .aborts) = 1) ∧
    ((takeBit 500 (collectingBits 40 7) false).counter (.ohl .runts) = 1) ∧
    ((takeBit 500 (collectingBits 42 7) false).counter (.ohl .misaligned) = 1) ∧
    (takeBit 500 (collectingBits 96 0) false).ohl.deframer.collected.length = 97 ∧
    ((takeBit 500 (collectingBits 97 0) false).counter (.ohl .overlong) = 1) ∧
    (takeBit 500 (collectingBits 9 6) false).ohl.deframer.collected.length = 15 ∧
    ((after (.overheadIn false 0) (collectingBits 9 0)).counter (.ohl .lost) = 1) ∧
    39 < 40 ∧ ¬40 < 40 ∧ 47 % 8 ≠ 0 := by decide +kernel

theorem witness_SentFramesAreReceived :
    (let bits := frameBits ((Frame.flipOffer true 0xFFFF 0xFFFF 0xFF).bytes 0xFFFF)
     let rest := List.replicate (128 - bits.length) false
     (planned 500).ohl.deframer.state = .search ∧ (planned 500).ohl.deframer.run = 0 ∧
      segmentBits (segmentOf ((bits ++ rest).take 64)) ++ segmentBits (segmentOf ((bits ++ rest).drop 64)) =
        bits ++ rest) := by decide +kernel

/-! ### Frames from the peer -/

theorem witness_GoodFrameIsHeardFirst :
    (planned 50).ohl.lock.state = .hunt ∧ (setLock ⟨.confirm, some 7, 0⟩ (planned 50)).ohl.lock.state = .confirm ∧
    (setLock ⟨.locked, some 7, 1⟩ (planned 50)).ohl.lock.mismatch < 2 ∧
    ¬(setLock ⟨.locked, some 7, 2⟩ (planned 50)).ohl.lock.mismatch < 2 ∧
    (setPeerSilent true (planned 50)).se.peerSilent = true ∧ (planned 50).se.peerSilent = false ∧
    (planned 50).counter (.ohl .good) < 65535 ∧ (setPeerSilent true (planned 50)).ScheduleShaped ∧
    2 ≤ (planned 50).params.longLead ∧ (planned 50).params.longLead ≤ 255 ∧ 2 ≤ (planned 50).params.shortLead ∧
    (planned 50).params.shortLead ≤ 64 := by
  refine ⟨by decide, by decide, by decide, by decide, by decide, by decide, by decide +kernel, ⟨by decide, ?_⟩,
    by decide⟩
  intro l
  cases l <;> decide

/-- The answer that the lane's reply slot holds after an ASK with the live digest and toggle set. -/
def answerTo (target : Profile) (digest : Digest) (s : State) : Option AnswerKind :=
  ((after (.ask (timesAt 0 s) .one true false target digest) s).ohl.tx.reply.get .one).map Answer.kind

def repeated (s : State) : State := setOut .one { s.outCtx .one with lastAnswer := some ⟨true, 4, .grant 9⟩ } s

/-- One ASK for each check of R81, in its order; the last but one has a BANK entry at the very epoch 82. -/
theorem witness_AskIsAnsweredInOrder :
    (answering 50).trp.Quiet ∧
    answerTo 4 0x1234 oneLane = some (.refuse .laneOff) ∧ answerTo 4 0 (answering 50) = some (.refuse .bank) ∧
    answerTo 4 0x1234 (repeated (answering 50)) = some (.grant 9) ∧
    answerTo 4 0x1234 (pinnedAt 3 (answering 50)) = some (.refuse .pinned) ∧
    answerTo 6 0x1234 (answering 50) = some (.refuse .masked) ∧
    answerTo 4 0x1234 { answering 50 with sws := [{ entryAt .outbound .one 2 51 .mask with committed := true }] } =
      some (.refuse .busy) ∧
    answerTo 3 0x1234 (answering 50) = some (.grant 50) ∧
    answerTo 4 0x1234 { answering 50 with sws := [⟨.bank .b, 82, .flip, false⟩] } = some (.refuse .flip) ∧
    answerTo 4 0x1234 { answering 50 with sws := [⟨.bank .b, 83, .flip, false⟩] } = some (.grant 82) ∧
    2 ≤ (answering 50).params.longLead ∧ (answering 50).params.longLead ≤ 255 :=
  ⟨Or.inl rfl, by decide +kernel⟩

/-- In0 ASKING for profile 2 at 100, LOCKED at offset 0. -/
def granting (entries : List Entry) : State :=
  let s := lockedAt 0 (asking 2 20 false (holding 5 0 .one (planned 100)))
  { s with sws := entries }

/-- The entry of In0 after a GRANT for an epoch. -/
def granted (epoch : Sfn) (s : State) : State := after (.grant (timesAt 0 s) .zero true 2 epoch) s

/-- In time at 102 and 4196, late at 101 and 100 - 4096, wild beyond either; fenced, committed, unlocked, stale. -/
theorem witness_GrantIsAnchored :
    (granting []).trp.Quiet ∧
    (granted 102 (granting [])).sws.map Entry.epoch = [102] ∧ (granted 4196 (granting [])).sws.map Entry.epoch = [4196] ∧
    (granted 4197 (granting [])).counter (.se .zero .wildGrants) = 1 ∧
    (granted 101 (granting [])).sws.map Entry.epoch = [102] ∧ (granted 61540 (granting [])).sws.map Entry.epoch = [102] ∧
    (granted 61539 (granting [])).counter (.se .zero .wildGrants) = 1 ∧
    ((granted 110 (granting [⟨.bank .b, 110, .flip, false⟩])).inCtx .zero).state = .steady ∧
    (granted 110 (granting [{ entryAt .inbound .zero 1 101 .grantIn with committed := true }])).counter
      (.se .zero .staleGrants) = 1 ∧
    ((granted 110 (setLock .hunting (granting []))).inCtx .zero).awaited = some ⟨2, some 48⟩ ∧
    (granted 110 (planned 100)).counter (.se .zero .staleGrants) = 1 :=
  ⟨Or.inl rfl, by decide +kernel⟩

/-- In0 after a REFUSE for a reason. -/
def refusedFor (reason : RefuseReason) : InContext :=
  (after (.refuse (timesAt 0 (granting [])) .zero true 2 reason) (granting [])).inCtx .zero

theorem witness_RefuseActsByReason :
    (refusedFor .pinned).holdReason = some .pinned ∧ (refusedFor .bank).holdReason = some .bank ∧
    (refusedFor .flip).state = .steady ∧ (refusedFor .laneOff).farLaneOff = true ∧
    (refusedFor .busy).ask = some ⟨2, .urgent, true, 3, 2, true⟩ ∧ (refusedFor .masked).refused = 4 ∧
    ((granting []).inCtx .zero).pin = none ∧ ((granting []).inCtx .zero).farLaneOff = false ∧
    downApplies (granting []) .zero = true ∧ downTarget (granting []) .zero ≠ ((granting []).inCtx .zero).pIn := by
  decide +kernel

/-- In0 HELD for a reason. -/
def heldFor (reason : HoldReason) : State :=
  let s := planned 100
  setIn .zero { s.inCtx .zero with state := .held, holdReason := some reason } s

theorem witness_BeaconUpdatesFarView :
    ((heldFor .pinned).inCtx .zero).state = .held ∧ ((heldFor .pinned).inCtx .zero).holdReason = some .pinned ∧
    ((heldFor .bank).inCtx .zero).holdReason = some .bank ∧ (heldFor .bank).liveDigest = 0x1234 ∧
    (heldFor .bank).enabled .zero = true ∧ moving.se.flip.divergence = 2 := by decide

/-- The flip answer after an offer from station 7 for an epoch, to a station with id 3. -/
def offerTo (digest : Digest) (epoch : Sfn) (s : State) : Option FlipAnswer :=
  (after (.flipOffer (timesAt 0 s) true digest epoch 7) (lockedAt 0 s)).ohl.tx.flipAnswer

def agreed (s : State) : State :=
  { s with se := { s.se with flip := { s.se.flip with lastAgreement := some ⟨true, 0x1234, 150⟩ } } }

/-- Each check of R113 in its order; the epochs 102 and 4196 are the first and the last in time. -/
theorem witness_FlipOfferIsAnsweredInOrder :
    (stagedAs .verified (planned 100)).trp.Quiet ∧
    offerTo 0x1234 200 (agreed (stagedAs .verified (planned 100))) = some (.agree true 0x1234 150) ∧
    offerTo 0x1234 200 (stagedAs .offered (planned 100)) = some (.decline true .clash) ∧
    offerTo 0x1234 200 (stagedAs .editing (planned 100)) = some (.decline true .notReady) ∧
    offerTo 0 200 (stagedAs .verified (planned 100)) = some (.decline true .digest) ∧
    offerTo 0x1234 200 (stagedAs .agreed (planned 100)) = some (.decline true .pending) ∧
    offerTo 0x1234 101 (stagedAs .verified (planned 100)) = some (.decline true .epoch) ∧
    offerTo 0x1234 102 (stagedAs .verified (planned 100)) = some (.agree true 0x1234 102) ∧
    offerTo 0x1234 4196 (stagedAs .verified (planned 100)) = some (.agree true 0x1234 4196) ∧
    offerTo 0x1234 4197 (stagedAs .verified (planned 100)) = some (.decline true .epoch) ∧
    (stagedAs .verified (planned 100)).entry .bank = none :=
  ⟨Or.inl rfl, by decide +kernel⟩

theorem witness_FlipAgreePlacesBankEntry :
    (let s := setSfn 20998 (offering 20 3)
     s.pst.status = .offered ∧ s.se.flip.offer = some ⟨true, 21000, 0x1234, 3, 20⟩ ∧ liesInTime s.sfn 21000 = true ∧
      liesInTime (setSfn 20999 s).sfn 21000 = false ∧ liesLate (setSfn 20999 s).sfn 21000 = true ∧
      liesLate (setSfn 25096 s).sfn 21000 = true ∧ liesLate (setSfn 25097 s).sfn 21000 = false ∧
      s.entry .bank = none) ∧
    (hearFrame (timesAt 1200 (setSfn 20998 (offering 20 3))) (setSfn 20998 (offering 20 3))).trp.Quiet :=
  ⟨by decide +kernel, Or.inl (by decide +kernel)⟩

theorem witness_FlipDeclineEndsTheOffer : (offering 20 3).pst.status = .offered ∧
    (offering 20 3).se.flip.offer.any (fun o => o.toggle == true) = true ∧
    (offering 20 3).se.flip.offer.any (fun o => o.toggle == false) = false := by decide

/-! ### Capacity, traffic and management -/

theorem witness_AllocationDividesCapacity :
    (∀ c : ClassNo, classTable[c].priority ≤ 7 ∧ classTable[c].guaranteed ≤ classTable[c].ceiling) ∧
    (classNumbers.map fun c => if classTable[c].enabled then classTable[c].guaranteed else 0).sum ≤ 100 ∧
    (∃ r ∈ (allocate 1001 500 classTable).runs, r.cls = none) ∧
    (classTable[2].enabled = true ∧ classTable[3].enabled = true ∧ classTable[2].priority = classTable[3].priority ∧
      (allocate 296 176 classTable).share 2 < classTable[2].ceiling) ∧
    (classTable[1].priority < classTable[2].priority ∧ classTable[2].guaranteed < (allocate 296 176 classTable).share 2) := by
  decide +kernel

def full (s : State) : State :=
  { s with trp := { s.trp with queue := List.replicate 16 (.classBlocked 0) } }

theorem witness_TrafficPortSendsInOrder : held.trp.reply = none ∧ held.trp.hold = true ∧
    held.trp.queue.length < 16 ∧ ¬(full held).trp.queue.length < 16 ∧ State.reset.trp.hold = false := by decide

/-- The cursor at an index of a table. -/
def pointing (table : CursorTable) (index : Nat) : State :=
  let s := planned 70
  { s with mgp := { s.mgp with cursor := ⟨table, index⟩ } }

theorem witness_ReadNextReturnsRecord :
    (pointing .stagedLadder 15).mgp.cursor.index < 16 ∧ (pointing .liveLadder 0).mgp.cursor.index < 16 ∧
    (pointing .stagedClasses 7).mgp.cursor.index < 8 ∧ (pointing .liveClasses 0).mgp.cursor.index < 8 ∧
    16 ≤ (pointing .liveLadder 16).mgp.cursor.index ∧ 8 ≤ (pointing .stagedClasses 8).mgp.cursor.index := by decide

theorem witness_CursorWritesStagedBank :
    (pointing .stagedLadder 15).mgp.cursor.index < 16 ∧ (pointing .stagedClasses 7).mgp.cursor.index < 8 ∧
    ¬(pointing .stagedClasses 8).mgp.cursor.index < 8 ∧ (240 : Byte).toNat ≤ 240 ∧ ¬(241 : Byte).toNat ≤ 240 ∧
    (1 : Byte).toNat * 256 + (224 : Byte).toNat ≤ 480 ∧ ¬(1 : Byte).toNat * 256 + (225 : Byte).toNat ≤ 480 ∧
    (pointing .stagedLadder 15).pst.status = .editing ∧ (offering 20 3).pst.status = .offered ∧
    (pointing .liveLadder 0).mgp.cursor.table ≠ .stagedLadder := by decide +kernel

/-- The ladder with another record, and with a class that asks for more than its ceiling. -/
def failing (p : Profile) (r : ProfileRecord) : Bank := { ladder with ladder := ladder.ladder.set p r }

/-- Each check's refusal with its index, the earlier check winning where two fail. -/
theorem witness_CommitChecksTheStagedBank :
    commitFailure (failing 0 .fill) = some (.baseInvalid 0) ∧
    commitFailure (failing 5 (rung 10 96 8 9 4)) = some (.constellation 5) ∧
    commitFailure (failing 4 (rung 3 1 6 7 3)) = some (.stayAboveEnter 4) ∧
    commitFailure (failing 7 (rung 7 90 11 9 4)) = some (.ladderOrder 7) ∧
    commitFailure { ladder with classes := ladder.classes.set 3 { ladder.classes[0] with guaranteed := 481 } } =
      some (.ceiling 3) ∧ commitFailure ladder = none ∧ (planned 70).pst.status = .editing ∧
    (offering 20 3).pst.status = .offered := by decide +kernel

theorem witness_FlipCommandsOfferOrSchedule :
    (let s := lockedAt 1200 (stagedAs .verified (planned 100))
     s.pst.status = .verified ∧ s.ohl.lock.state = .locked ∧ s.se.peerSilent = false ∧ s.entry .bank = none ∧
      s.trp.Quiet) ∧
    (stagedAs .agreed (planned 100)).pst.status = .agreed ∧ (planned 100).pst.status = .editing :=
  ⟨⟨by decide, by decide, by decide, by decide, Or.inl rfl⟩, by decide, by decide⟩

/-- Out1 and In0 pinned, each to a profile. -/
def bothPinned (pOut pIn pin : Profile) : State :=
  let s := pinnedAt pin (holding pIn pOut .one (planned 70))
  setIn .zero { s.inCtx .zero with pin := some pin } s

theorem witness_MaskWritesMoveContexts :
    (let s := holding 5 5 .zero (planned 70)
     laneOf 0 = some .zero ∧ dirOf 1 = some .outbound ∧ dirOf 0 = some .inbound ∧ maskModeOf 2 = some .clearBits ∧
      maskModeOf 3 = none ∧ s.enabled .zero = true ∧ inSet 0x0020 (s.outCtx .zero).pOut = true ∧
      (s.outCtx .zero).mode = .adaptive ∧ (s.outCtx .zero).pin = none ∧ s.entryOf .outbound .zero = none ∧
      s.entry .bank = none ∧ 2 ≤ s.params.longLead ∧ s.params.longLead ≤ 255 ∧ inSet 0x0020 (s.inCtx .zero).pIn = true ∧
      (s.inCtx .zero).pin = none ∧ (s.inCtx .zero).state = .steady ∧ (s.inCtx .zero).farLaneOff = false ∧
      (s.inCtx .zero).deferred = none ∧ inSet 0x0040 (s.inCtx .zero).pIn = false) ∧
    (let s := asking 2 9 false (holding 5 5 .zero (planned 70))
     s.enabled .zero = true ∧ inSet 0x0020 (s.inCtx .zero).pIn = true ∧ (s.inCtx .zero).pin = none ∧
      (s.inCtx .zero).state = .asking) ∧
    ((awaitingTag 3).inCtx .zero).state = .awaitingTag ∧ ((heldFor .bank).inCtx .zero).state = .held ∧
    (let s := bothPinned 3 5 5
     inSet 0x0020 (s.outCtx .one).pOut = false ∧ (s.outCtx .one).pin.any (inSet 0x0020) = true ∧
      (s.inCtx .zero).pin = some 5 ∧ inSet 0x0020 (s.inCtx .zero).pIn = true ∧
      inSet 0x0020 ((bothPinned 5 3 5).inCtx .zero).pIn = false ∧ inSet 0x0020 ((bothPinned 5 3 5).outCtx .one).pOut = true ∧
      allowed (after (.writeMask 0 0 2 0x0020) s) .inbound .zero 5 = false ∧
      IsHighestBelow (allowed (after (.writeMask 0 0 2 0x0020) s) .inbound .zero) 5 4 ∧
      allowed (after (.writeMask 0 0 2 0x0020) (bothPinned 3 5 4)) .inbound .zero 4 = true ∧
      2 ≤ s.params.shortLead ∧ s.params.shortLead ≤ 64) ∧
    (bothPinned 3 5 5).ScheduleShaped ∧ moving.entryOf .outbound .zero ≠ none ∧ moving.trp.Quiet := by
  refine ⟨by decide +kernel, by decide +kernel, by decide +kernel, by decide +kernel, ?_, ⟨by decide, ?_⟩, by decide,
    Or.inl (by decide)⟩
  · refine ⟨by decide +kernel, by decide +kernel, by decide +kernel, by decide +kernel, by decide +kernel,
      by decide +kernel, by decide +kernel, ?_, by decide +kernel⟩
    unfold IsHighestBelow
    decide +kernel
  · intro l
    cases l <;> decide

/-- R87: the pin of In0 falls with the mask to the highest allowed profile below it, and In0 asks for it. -/
theorem test_mask_moves_pin : (let t := after (.writeMask 0 0 2 0x0020) (bothPinned 3 5 5)
    (t.inCtx .zero).pin = some 4 ∧ (t.inCtx .zero).ask.map OutstandingAsk.target = some 4) := by decide +kernel

theorem witness_PinsHoldContexts :
    (let s := holding 5 5 .zero (planned 70)
     profileOf 15 = some 15 ∧ profileOf 16 = none ∧ allowed s .outbound .zero 7 = true ∧
      allowed s .outbound .zero 6 = false ∧ s.enabled .zero = true ∧ oneLane.enabled .one = false ∧
      s.entryOf .outbound .zero = none ∧ s.entry .bank = none ∧ 2 ≤ s.params.longLead ∧ s.params.longLead ≤ 255 ∧
      (s.inCtx .zero).state = .steady ∧ (s.inCtx .zero).farLaneOff = false ∧
      ((heldFor .bank).inCtx .zero).state = .held ∧ (s.outCtx .zero).pin = none ∧
      ((asking 2 9 false s).inCtx .zero).state = .asking ∧ ((awaitingTag 3).inCtx .zero).state = .awaitingTag) ∧
    (holding 5 5 .zero (planned 70)).ScheduleShaped ∧ (pinnedAt 3 (planned 70)).ScheduleShaped ∧
    ((pinnedAt 3 (planned 70)).outCtx .one).pin = some 3 := by
  refine ⟨by decide +kernel, ⟨by decide, ?_⟩, ⟨by decide, ?_⟩, by decide⟩ <;> (intro l; cases l <;> decide)

theorem witness_LaneCommandsRestartTheLane : laneOf 2 = none ∧ laneOf 1 = some .one ∧
    moving.enabled .one = true ∧ oneLane.enabled .one = false ∧ moving.trp.Quiet := by
  refine ⟨by decide, by decide, by decide, by decide, Or.inl (by decide)⟩

theorem witness_ReleaseClassActsOnBlockFlag : classOf 8 = none ∧ classOf 7 = some 7 ∧
    (planned 70).cal.blocked.getLsbD 7 = false ∧ (planned 70).cal.live.outbound.share 7 = 0 ∧
    (planned 70).cal.live.outbound.share 0 = 32 := by decide +kernel

def collecting : State :=
  let s := planned 70
  setDeframer { s.ohl.deframer with state := .collect, collected := [true] } s

theorem witness_RestartAndClearKeepThePlan : (offering 20 3).se.flip.offer.isSome = true ∧
    collecting.ohl.deframer.state = .collect ∧ collecting.ohl.deframer.collected ≠ [] ∧
    collecting.counter (.ohl .lost) < 65535 := by decide +kernel

theorem witness_ParamsAreStoredAndReadBack :
    itemOf 20 = none ∧ itemOf 6 = some (.lane .branchHold) ∧ laneOf 2 = none ∧ laneOf 0 = some .zero ∧
    (∀ x ∈ LaneParams.default.thresholds.toList, x ≤ 1023) ∧
    LaneParams.default.thresholds.toList.Pairwise (· > ·) := by decide +kernel

theorem witness_ReadsReturnTheState : laneOf 1 = some .one ∧ laneOf 2 = none ∧ dirOf 2 = none := by decide

theorem witness_CountersAreReadByGroup : groupOf 3 = none ∧ groupOf 2 = some .se ∧
    (Counter.se .one .fastDrops).place.val < 14 + 22 ∧ 14 ≤ (Counter.se .zero .asksSent).place.val := by decide

theorem witness_RecordsAreReadByAge : 64 ≤ (64 : Byte).toNat ∧ ¬64 ≤ (63 : Byte).toNat ∧
    moving.prc.ring[(0 : Byte).toNat]? = some .reset := by decide

end Sys2Proof.Tests
end

section
/-! The proofs of the statements on the cursor's commands (R57 to R59). -/

namespace Sys2Proof.Machine

/-! ## The record under the cursor -/

/-- R57: the end, and it alone among the places of a cursor, has no record. -/
theorem recordAt_eq_none_iff (s : State) (c : Cursor) : recordAt s c = none ↔ c.table.size ≤ c.index := by
  obtain ⟨table, index⟩ := c
  cases table <;> simp [recordAt, CursorTable.size]

theorem recordAt_stagedLadder {s : State} {c : Cursor} (hc : c.table = .stagedLadder) (h : c.index < 16) :
    recordAt s c = some (.profileRecord s.stagedBank.ladder[c.index]) := by
  simp [recordAt, hc, h]

theorem recordAt_liveLadder {s : State} {c : Cursor} (hc : c.table = .liveLadder) (h : c.index < 16) :
    recordAt s c = some (.profileRecord s.liveBank.ladder[c.index]) := by
  simp [recordAt, hc, h]

theorem recordAt_stagedClasses {s : State} {c : Cursor} (hc : c.table = .stagedClasses) (h : c.index < 8) :
    recordAt s c = some (.classRecord s.stagedBank.classes[c.index]) := by
  simp [recordAt, hc, h]

theorem recordAt_liveClasses {s : State} {c : Cursor} (hc : c.table = .liveClasses) (h : c.index < 8) :
    recordAt s c = some (.classRecord s.liveBank.classes[c.index]) := by
  simp [recordAt, hc, h]

/-- The statements give a table's number of records by its kind, the model by its name. -/
theorem CursorTable.size_eq_ite (t : CursorTable) :
    t.size = if t = .stagedLadder ∨ t = .liveLadder then 16 else 8 := by
  cases t <;> rfl

/-! ## READ NEXT (R58) -/

theorem exec_readNext_of_record {s : State} {d : ResponseData} (h : recordAt s s.mgp.cursor = some d) :
    exec .readNext s = .next (answerData d (advanceCursor s)) := by
  change execReadNext s = _
  simp only [execReadNext, h]

theorem exec_readNext_of_end {s : State} (h : s.mgp.cursor.table.size ≤ s.mgp.cursor.index) :
    exec .readNext s = .next (answer .badArg s) := by
  change execReadNext s = _
  simp only [execReadNext, (recordAt_eq_none_iff s s.mgp.cursor).mpr h]

/-- Settles O48: each table's record is the one under the cursor, and only the end has none. -/
theorem readNextReturnsRecord : Obligations.ReadNextReturnsRecord := by
  intro s
  refine ⟨fun h htable => ?stagedLadder, fun h htable => ?liveLadder, fun h htable => ?stagedClasses,
    fun h htable => ?liveClasses, fun h => ?atEnd⟩
  case stagedLadder => exact exec_readNext_of_record (recordAt_stagedLadder htable h)
  case liveLadder => exact exec_readNext_of_record (recordAt_liveLadder htable h)
  case stagedClasses => exact exec_readNext_of_record (recordAt_stagedClasses htable h)
  case liveClasses => exact exec_readNext_of_record (recordAt_liveClasses htable h)
  case atEnd => exact exec_readNext_of_end ((CursorTable.size_eq_ite _).trans_le h)

end Sys2Proof.Machine
end

section
/-! The proof of the statement on FLIP DECLINE (R115). -/

namespace Sys2Proof.Machine

/-! ## A decline at the flip coordinator (R115) -/

/-- R115: the decline of the outstanding offer's toggle. -/
theorem takeDecline_of_matching {s : State} {toggle : Bool} {o : OutstandingOffer} (reason : DeclineReason)
    (hstatus : s.pst.status = .offered) (hoffer : s.se.flip.offer = some o) (htoggle : o.toggle = toggle) :
    takeDecline toggle reason s = raise .offerDeclined (endOffer (.declined reason) .verified s) := by
  simp only [takeDecline, hoffer, hstatus, htoggle, and_self, if_true]

/-- R115: any other decline is ignored, be it for want of an offer, of the status OFFERED or of the toggle. -/
theorem takeDecline_of_not_matching {s : State} {toggle : Bool} (reason : DeclineReason)
    (h : ¬(s.pst.status = .offered ∧ s.se.flip.offer.any (fun o => o.toggle == toggle) = true)) :
    takeDecline toggle reason s = s := by
  cases hoffer : s.se.flip.offer with
  | none => simp only [takeDecline, hoffer]
  | some o =>
    have hother : ¬(s.pst.status = .offered ∧ o.toggle = toggle) := by simpa [hoffer] using h
    simp only [takeDecline, hoffer, if_neg hother]

/-- R126: the command is a good frame, heard first and then handed to the coordinator. -/
theorem exec_flipDecline (times : FrameTimes) (toggle : Bool) (reason : DeclineReason) (s : State) :
    exec (.flipDecline times toggle reason) s = .next (takeDecline toggle reason (hearFrame times s)) := rfl

/-- Settles O45: a decline that matches the outstanding offer ends it, and any other leaves the heard frame's state. -/
theorem flipDeclineEndsTheOffer : Obligations.FlipDeclineEndsTheOffer := by
  intro s times toggle reason
  refine ⟨hearFrame times s, rfl, ?_⟩
  rw [exec_flipDecline]
  split
  case isTrue h =>
    obtain ⟨hstatus, hany⟩ := h
    obtain ⟨o, hoffer, htoggle⟩ := (Option.any_eq_true _ _).mp hany
    rw [takeDecline_of_matching reason hstatus hoffer (eq_of_beq htoggle)]
    rfl
  case isFalse h => rw [takeDecline_of_not_matching reason h]

end Sys2Proof.Machine
end

section
/-! The proof of the statement on the check computation, the check bytes and the residue (R62, R124). -/

namespace Sys2Proof.Machine

/-! ## One bit through the register (R62) -/

/-- The places of the generator x^16 + x^15 + x^2 + 1 below its highest. -/
theorem getLsbD_checkGenerator :
    ∀ i < 16, (0x8005#16).getLsbD i = (i == 0 || i == 2 || i == 15) := by decide

/-- R62: every place takes the one below it, and the generator's places the bit shifted out against the one fed in. -/
theorem getLsbD_checkBit (reg : Digest) (bit : Bool) {i : Nat} (hi : i < 16) :
    (checkBit reg bit).getLsbD i =
      ((decide (0 < i) && reg.getLsbD (i - 1)) ^^
        ((reg.getLsbD 15 ^^ bit) && (i == 0 || i == 2 || i == 15))) := by
  have hshift : (reg <<< 1).getLsbD i = (decide (0 < i) && reg.getLsbD (i - 1)) := by
    simp only [BitVec.getLsbD_shiftLeft, hi, decide_true, Bool.true_and, Nat.lt_one_iff, Nat.pos_iff_ne_zero,
      ne_eq, decide_not]
  have hmsb : reg.msb = reg.getLsbD 15 := BitVec.msb_eq_getLsbD_last reg
  have hbne : (reg.msb != bit) = (reg.getLsbD 15 ^^ bit) := by rw [hmsb]
  unfold checkBit
  split
  case isTrue h =>
    rw [hbne] at h
    rw [BitVec.getLsbD_xor, hshift, getLsbD_checkGenerator i hi, h, Bool.true_and]
  case isFalse h =>
    rw [hbne, Bool.not_eq_true] at h
    rw [hshift, h, Bool.false_and, Bool.xor_false]

/-- The bit fed in meets its equal at the top of the register, and the register only shifts. -/
theorem checkBit_msb (reg : Digest) : checkBit reg reg.msb = reg <<< 1 := by
  simp [checkBit]

/-! ## The register over bits and bytes -/

/-- Fed with its own places from the top, the register shifts them out one by one. -/
theorem foldl_checkBit_own_places (reg : Digest) (n : Nat) :
    ((List.range n).map reg.getMsbD).foldl checkBit reg = reg <<< n := by
  induction n with
  | zero => simp
  | succ n ih =>
    have hmsb : (reg <<< n).msb = reg.getMsbD n := BitVec.msb_shiftLeft
    simp only [List.range_succ, List.map_append, List.map_singleton, List.foldl_append, ih,
      List.foldl_cons, List.foldl_nil]
    rw [← hmsb, checkBit_msb, ← BitVec.shiftLeft_add]

/-- R189: a word sent high byte first is sent place by place from the top. -/
theorem bytesBits_wordBytes (w : BitVec 16) : bytesBits (wordBytes w) = (List.range 16).map w.getMsbD := by
  simp [bytesBits, wordBytes, byteBits, BitVec.getMsbD, List.range_succ]

/-- The check of bytes goes on from the register that the bytes before them left (R62). -/
theorem check_append (bs cs : List Byte) : check (bs ++ cs) = (bytesBits cs).foldl checkBit (check bs) := by
  simp only [check, bytesBits, List.flatMap_append, List.foldl_append]

/-- R124: bytes closed by their own check leave the register at zero. -/
theorem check_append_check (bs : List Byte) : check (bs ++ wordBytes (check bs)) = 0 := by
  rw [check_append, bytesBits_wordBytes, foldl_checkBit_own_places]
  exact BitVec.shiftLeft_eq_zero (Nat.le_refl 16)

/-- R62: a byte goes into the register with its highest place first. -/
theorem check_concat (bs : List Byte) (b : Byte) :
    check (bs ++ [b]) = [b.getLsbD 7, b.getLsbD 6, b.getLsbD 5, b.getLsbD 4, b.getLsbD 3, b.getLsbD 2,
      b.getLsbD 1, b.getLsbD 0].foldl checkBit (check bs) := by
  rw [check_append]; rfl

/-! ## The receiver's check (R124, R125) -/

/-- Settles O34: the residue is zero because a frame's check bytes are the very places the register then holds. -/
theorem checkComputationAndResidue : Obligations.CheckComputationAndResidue := by
  refine ⟨fun reg bit _ => getLsbD_checkBit reg bit, rfl, check_concat, fun _ => rfl, fun f stamp => ?sent,
    fun bits arrival s hlength hwhole => ?received⟩
  case sent => exact ⟨_, rfl, rfl, check_append_check _⟩
  case received =>
    have hrunt : ¬bits.length < Config.runtBits := Nat.not_lt.mpr hlength
    split
    case isTrue hzero =>
      exact (if_neg hrunt).trans ((if_neg (not_not.mpr hwhole)).trans (if_neg (not_not.mpr hzero)))
    case isFalse hresidue =>
      exact (if_neg hrunt).trans ((if_neg (not_not.mpr hwhole)).trans (if_pos hresidue))

end Sys2Proof.Machine
end

section
/-! The proof of the statement on the release of a blocked class (R167). -/

namespace Sys2Proof.Machine

/-! ## The answers of RELEASE CLASS (R167), in the order of its checks -/

/-- R167: an argument outside 0..7 is no class. -/
theorem exec_releaseClass_of_no_class {cls : Byte} (hclass : classOf cls = none) (s : State) :
    exec (.releaseClass cls) s = .next (answer .badArg s) := by
  change execReleaseClass cls s = _
  rw [execReleaseClass, hclass]

/-- R167, 1: there is nothing to release. -/
theorem exec_releaseClass_of_clear {cls : Byte} {c : ClassNo} {s : State} (hclass : classOf cls = some c)
    (hclear : s.cal.blocked.getLsbD c = false) : exec (.releaseClass cls) s = .next (answer .ok s) := by
  change execReleaseClass cls s = _
  simp only [execReleaseClass, hclass, hclear, Bool.not_false, if_true]

/-- R167, 2: the class has no slots to resume into. -/
theorem exec_releaseClass_of_no_share {cls : Byte} {c : ClassNo} {s : State} (hclass : classOf cls = some c)
    (hset : s.cal.blocked.getLsbD c = true) (hshare : s.cal.live.outbound.share c = 0) :
    exec (.releaseClass cls) s = .next (answer (.refused .noShare) s) := by
  change execReleaseClass cls s = _
  simp only [execReleaseClass, hclass, hset, hshare, Bool.not_true, Bool.false_eq_true, if_false, if_true]

/-- R167, 3: the flag is cleared before the notice is handed over. -/
theorem exec_releaseClass_of_share {cls : Byte} {c : ClassNo} {s : State} (hclass : classOf cls = some c)
    (hset : s.cal.blocked.getLsbD c = true) (hshare : s.cal.live.outbound.share c ≠ 0) :
    exec (.releaseClass cls) s = .next (answer .ok (handNotice (.classReleased c)
      { s with cal := { s.cal with blocked := s.cal.blocked &&& ~~~BitVec.twoPow 8 c } })) := by
  change execReleaseClass cls s = _
  simp only [execReleaseClass, hclass, hset, hshare, Bool.not_true, Bool.false_eq_true, if_false]

/-- Settles O55, by the checks of R167 in their order: the argument, the flag, the share. -/
theorem releaseClassActsOnBlockFlag : Obligations.ReleaseClassActsOnBlockFlag := by
  intro s cls
  cases hclass : classOf cls with
  | none => exact exec_releaseClass_of_no_class hclass s
  | some c =>
    dsimp only
    split_ifs with hclear hshare
    · exact exec_releaseClass_of_clear hclass hclear
    · exact exec_releaseClass_of_no_share hclass (Bool.eq_true_of_not_eq_false hclear) hshare
    · exact exec_releaseClass_of_share hclass (Bool.eq_true_of_not_eq_false hclear) hshare

end Sys2Proof.Machine
end

section
/-! The proof of the statement on READ COUNTERS (R182). -/

namespace Sys2Proof.Machine

/-! ## Counter groups (section 11.4) -/

/-- The statement gives a group by its argument, its first place and its size, the model by its name. -/
theorem exists_group_of_span {group : Byte} {first size : Nat}
    (h : group = 0 ∧ first = 0 ∧ size = 4 ∨ group = 1 ∧ first = 4 ∧ size = 10 ∨
      group = 2 ∧ first = 14 ∧ size = 22) :
    ∃ g : CounterGroup, groupOf group = some g ∧ g.span = (first, size) := by
  obtain ⟨rfl, rfl, rfl⟩ | ⟨rfl, rfl, rfl⟩ | ⟨rfl, rfl, rfl⟩ := h
  · exact ⟨.mdp, rfl, rfl⟩
  · exact ⟨.ohl, rfl, rfl⟩
  · exact ⟨.se, rfl, rfl⟩

/-- R182: a clear takes the counters that stand in the span of the group, and no other. -/
theorem clearGroup_counter (g : CounterGroup) (s : State) (c : Counter) :
    (clearGroup g s).counter c =
      if g.span.1 ≤ c.place.val ∧ c.place.val < g.span.1 + g.span.2 then 0 else s.counter c := by
  simp [State.counter, clearGroup, CounterGroup.holds]

/-- R182: the counters after a read, with the clear option and without it. -/
theorem counter_ite_clearGroup (clear : Bool) (g : CounterGroup) (s : State) (c : Counter) :
    (if clear then clearGroup g s else s).counter c =
      if clear = true ∧ g.span.1 ≤ c.place.val ∧ c.place.val < g.span.1 + g.span.2 then 0 else s.counter c := by
  cases clear with
  | false => simp
  | true => simp [clearGroup_counter]

/-- R182: nothing but the counters is touched by the clear option. -/
theorem ite_clearGroup_eq (clear : Bool) (g : CounterGroup) (s : State) :
    (if clear then clearGroup g s else s) =
      { s with prc := { s.prc with counters := (if clear then clearGroup g s else s).prc.counters } } := by
  cases clear <;> rfl

/-! ## READ COUNTERS (R182) -/

/-- R182: an argument outside 0..2 is no group. -/
theorem exec_readCounters_of_no_group {group : Byte} (h : groupOf group = none) (clear : Bool) (s : State) :
    exec (.readCounters group clear) s = .next (answer .badArg s) := by
  change execReadCounters group clear s = _
  simp only [execReadCounters, h]

/-- R182: the values returned are those before the clear. -/
theorem exec_readCounters_of_group {group : Byte} {g : CounterGroup} (h : groupOf group = some g) (clear : Bool)
    (s : State) :
    exec (.readCounters group clear) s =
      .next (answerData (.counters (groupValues s g)) (if clear then clearGroup g s else s)) := by
  change execReadCounters group clear s = _
  simp only [execReadCounters, h]

/-- Settles O59: the snapshot is the span of the group, and the clear writes the counters of that span only. -/
theorem countersAreReadByGroup : Obligations.CountersAreReadByGroup := by
  refine ⟨fun s clear group h => exec_readCounters_of_no_group h clear s, ?_⟩
  intro s clear group first size hgroup
  obtain ⟨g, hg, hspan⟩ := exists_group_of_span hgroup
  refine ⟨_, exec_readCounters_of_group hg clear s, ?values, fun c => ?counters, ?frame⟩
  case values =>
    have hvalues : groupValues s g = (s.prc.counters.toList.drop first).take size := by
      rw [groupValues, hspan]
    rw [← hvalues]
    rfl
  case counters =>
    have hcounter := counter_ite_clearGroup clear g s c
    rw [hspan] at hcounter
    exact hcounter
  case frame => exact congrArg (answerData (.counters (groupValues s g))) (ite_clearGroup_eq clear g s)

end Sys2Proof.Machine
end

section
/-! The proof of the statement on READ RECORD (R185). -/

namespace Sys2Proof.Machine

/-! ## READ RECORD (R185), in the order of its checks -/

/-- R185: an argument outside 0..63 is no age. -/
theorem exec_readRecord_of_no_age {age : Byte} (h : 64 ≤ age.toNat) (s : State) :
    exec (.readRecord age) s = .next (answer .badArg s) :=
  if_neg (Nat.not_lt.mpr h)

/-- R185: the ring holds a record of this age. -/
theorem exec_readRecord_of_record {age : Byte} {r : SecondsRecord} {s : State} (h : ¬64 ≤ age.toNat)
    (hring : s.prc.ring[age.toNat]? = some r) :
    exec (.readRecord age) s = .next (answerData (.seconds r) s) := by
  change execReadRecord age s = _
  have hage : age.toNat < Config.ringCapacity := Nat.not_le.mp h
  simp only [execReadRecord, hage, hring, if_true]

/-- R185: the ring holds fewer records than the age asks for. -/
theorem exec_readRecord_of_no_record {age : Byte} {s : State} (h : ¬64 ≤ age.toNat)
    (hring : s.prc.ring[age.toNat]? = none) :
    exec (.readRecord age) s = .next (answer (.refused .noRecord) s) := by
  change execReadRecord age s = _
  have hage : age.toNat < Config.ringCapacity := Nat.not_le.mp h
  simp only [execReadRecord, hage, hring, if_true]

/-- R184: the record just latched is the newest of the ring, whose capacity leaves room for it. -/
theorem latch_ring_newest (w : PlanWord) (s : State) : (latch w s).prc.ring[0]? = some s.prc.building := by
  rw [latch_ring, List.take_succ_cons, List.getElem?_cons_zero]

/-- Settles O60, by the checks of R185 in their order: the age, then the number of records. -/
theorem recordsAreReadByAge : Obligations.RecordsAreReadByAge := by
  refine ⟨fun s age => ?_, fun s w => latch_ring_newest w s⟩
  split
  case isTrue h => exact exec_readRecord_of_no_age h s
  case isFalse h =>
    cases hring : s.prc.ring[age.toNat]? with
    | some r => exact exec_readRecord_of_record h hring
    | none => exact exec_readRecord_of_no_record h hring

end Sys2Proof.Machine
end
